-- ==== Sys2Proof/Word.lean ====
section
/-!
DEFINITION. The words the SB-416 exchanges: bytes, the 16-bit numbers of registers, entries and notices,
and the 32-bit statistics counters (spec 00_scope.md, Conventions; 11_frame_and_packet_formats.md).
-/

namespace Sys2Proof

/-- One character of a line: 8 bits (R84, R160). -/
abbrev Byte := BitVec 8

/-- A 16-bit number: a register address, an entry number, a notice number, a CRC. Entry and notice
numbers wrap from 65,535 to 0 (R3, R145). -/
abbrev Half := BitVec 16

/-- A statistics counter of GET_STATUS: 32 bits, wrapping (R176). -/
abbrev Count32 := BitVec 32

end Sys2Proof
end

