-- ==== Sys2Proof/Config.lean ====
section
/-!
DEFINITION. What is fixed in the part: the capacities, the times that are no parameter, and the identity values.
The spec leaves no VALUE of the block open, so there is no opaque constant here (notes/assumptions/2.md).
-/

namespace Sys2Proof.Config

/-- Entries the Posted Write Queue holds at most (R2). -/
def pwqEntries : Nat := 16
/-- Data bytes the Posted Write Queue holds at most (R2). -/
def pwqBytes : Nat := 1024
/-- Delayed Request Table slots (R21). -/
def slotCount : Nat := 8
/-- Entries the Notice Queue holds at most (R144). -/
def noticeEntries : Nat := 24
/-- The highest Notice Queue occupancy at which candidate C is present (R76). -/
def collectGate : Nat := 19
/-- Field nodes on the segment (R108). -/
def nodeCount : Nat := 30
/-- Places of the Inbound Frame Buffer (R164). -/
def framePlaces : Nat := 4
/-- Answers the Answer Replay Store holds at most (R167). -/
def storedAnswers : Nat := 8
/-- The longest data a CONFIRM_WRITE, hence a handed-over POST_WRITE, carries (R5). -/
def confirmMax : Nat := 32
/-- The packet size a broadcast entry is cut at (R9). -/
def broadcastPacket : Nat := 32
/-- The bus turnaround in bit times (R85). -/
def turnaround : Nat := 20
/-- The longest response, in characters, a DATA of 32 bytes (R91). -/
def responseBound : Nat := 37
/-- The length of one slot of a survey train in bit times (R98). -/
def surveySlot : Nat := 12
/-- The end of the survey train in bit times after the command's last bit (R98). -/
def surveyEnd : Nat := 372
/-- The silence count saturates here (R111). -/
def silenceMax : Nat := 15
/-- The lost-fault count and a notice's send count saturate here (R146, R150). -/
def byteMax : Nat := 255
/-- The posted-loss counter saturates here (R18). -/
def lossMax : Nat := 65535

/-- IDENTIFY: vendor code (R186). -/
def vendorCode : Half := 0x5557
/-- IDENTIFY: part code (R186). -/
def partCode : Half := 0x0416
/-- IDENTIFY and HELLO: silicon revision (R180, R186). -/
def siliconRevision : Byte := 1

end Sys2Proof.Config
end

