-- ==== Sys2Proof/Syntax.lean ====
section
/-!
DEFINITION. The commands of the block: one constructor of Instr per row of spec/opcode_table.json.
The rows carry no bits and no fields; the operands are what the rules say the row's event brings from outside:
the frame a request step takes (R187, R189), the characters of the two lines (R161, R193), the survey train's
start bits (R98), the LSPD1..0 level sampled where a step can end in a part reset (R177), and the slot or node
whose deadline expires.
-/

namespace Sys2Proof

/-- A field node. Node address n (1..30) is the member n - 1 (R108). -/
abbrev NodeId := Fin 30

/-- A Delayed Request Table slot, 0..7 (R21). -/
abbrev SlotId := Fin 8

/-- A character received on the segment pair: its value, and whether its stop bit was at the idle level (R92). -/
structure RxChar where
  value : Byte
  stopGood : Bool
  deriving DecidableEq, Repr

/-- A start bit seen in a survey train: the bit time of its leading edge after the SURVEY's last stop bit, and the
character it began (R98, R99). -/
structure TrainStart where
  time : Nat
  char : RxChar
  deriving DecidableEq, Repr

/-- The commands, in the table's order. A request row (POST_WRITE to PART_RESET, UNKNOWN_TYPE_REQUEST, REPLAY) is the
dispatcher's taking of the oldest WAITING frame of the Inbound Frame Buffer (R166): its operands are that frame's
sequence and payload (and its type where the row does not fix it). -/
inductive Instr where
  /-- POST_WRITE (R4): the dispatcher takes a frame of type 01h. -/
  | postWrite (seq : Byte) (payload : List Byte)
  /-- BROADCAST_WRITE (R6): type 02h. -/
  | broadcastWrite (seq : Byte) (payload : List Byte)
  /-- CONFIRM_WRITE (R25): type 10h. -/
  | confirmWrite (seq : Byte) (payload : List Byte)
  /-- READ_REGS (R25): type 11h. -/
  | readRegs (seq : Byte) (payload : List Byte)
  /-- READ_BLOCK (R49): type 12h. -/
  | readBlock (seq : Byte) (payload : List Byte)
  /-- PROBE_NODE (R36): type 13h. -/
  | probeNode (seq : Byte) (payload : List Byte)
  /-- BARRIER (R37): type 14h. -/
  | barrier (seq : Byte) (payload : List Byte)
  /-- CANCEL_SLOT (R44): type 15h. -/
  | cancelSlot (seq : Byte) (payload : List Byte)
  /-- NOTICE_ACK (R152): type 20h. -/
  | noticeAck (seq : Byte) (payload : List Byte)
  /-- SET_NODE (R118): type 30h. -/
  | setNode (seq : Byte) (payload : List Byte)
  /-- GET_NODE (R120): type 31h. -/
  | getNode (seq : Byte) (payload : List Byte)
  /-- SET_PARAM (R182): type 32h. -/
  | setParam (seq : Byte) (payload : List Byte)
  /-- GET_PARAM (R183): type 33h. -/
  | getParam (seq : Byte) (payload : List Byte)
  /-- GET_STATUS (R176): type 34h. -/
  | getStatus (seq : Byte) (payload : List Byte)
  /-- IDENTIFY (R186): type 35h. -/
  | identify (seq : Byte) (payload : List Byte)
  /-- SEGMENT_RESET (R185): type 3Eh. -/
  | segmentReset (seq : Byte) (payload : List Byte)
  /-- PART_RESET (R179): type 3Fh. -/
  | partReset (seq : Byte) (payload : List Byte)
  /-- UNKNOWN_TYPE_REQUEST (R168): a frame whose type is no request type. -/
  | unknownTypeRequest (seq type : Byte) (payload : List Byte)
  /-- REPLAY (R166): a frame whose sequence is held in the Answer Replay Store. -/
  | replay (seq type : Byte) (payload : List Byte)
  /-- FRAME_RECEIVED (R164): the characters taken from RXD up to a second CRC character. -/
  | frameReceived (chars : List Byte)
  /-- BAD_FRAME (R162): the characters taken from RXD up to the one at which the fault is found. -/
  | badFrame (chars : List Byte)
  /-- FRAME_GAP_TIMEOUT (R161): the gap inside a frame exceeds 1 ms. -/
  | frameGapTimeout
  /-- BREAK (R171): RXD returns to idle after 2 ms or more of low level. -/
  | lineBreak (lspd : BitVec 2)
  /-- FRAME_TRANSMITTED (R170): the last character of the frame on TXD has been sent. -/
  | frameTransmitted (lspd : BitVec 2)
  /-- POWER_ON (R178). -/
  | powerOn
  /-- NRST_LOW (R178). -/
  | nrstLow
  /-- PART_RESET_END (R177): NRST is high and the supply stable. -/
  | partResetEnd (lspd : BitVec 2)
  /-- HOLD_EXPIRY (R104). -/
  | holdExpiry
  /-- SETTLE_EXPIRY (R105). -/
  | settleExpiry
  /-- SEG_ATTN_ASSERTED (R128). -/
  | segAttnAsserted
  /-- SEG_ATTN_RELEASED (R128). -/
  | segAttnReleased
  /-- TURNAROUND_EXPIRY (R85). -/
  | turnaroundExpiry
  /-- COMMAND_SENT (R89). -/
  | commandSent
  /-- RESPONSE_WINDOW_EXPIRY (R90). -/
  | responseWindowExpiry
  /-- RESPONSE_END (R91): the response characters taken from the pair up to the one that ends the response. -/
  | responseEnd (chars : List RxChar)
  /-- RESPONSE_GAP_TIMEOUT (R92). -/
  | responseGapTimeout
  /-- BROADCAST_WINDOW_EXPIRY (R97). -/
  | broadcastWindowExpiry
  /-- SURVEY_TRAIN_END (R99): the start bits seen in the train. -/
  | surveyTrainEnd (starts : List TrainStart)
  /-- HEAD_GAP_EXPIRY (R12). -/
  | headGapExpiry
  /-- SLOT_GAP_EXPIRY (R39). -/
  | slotGapExpiry (slot : SlotId)
  /-- DISCARD_EXPIRY (R42). -/
  | discardExpiry (slot : SlotId)
  /-- FETCH_ELIGIBLE_EXPIRY (R136). -/
  | fetchEligibleExpiry (node : NodeId)
  /-- SURVEY_HOLDOFF_EXPIRY (R131). -/
  | surveyHoldoffExpiry
  /-- RESEND_EXPIRY (R155). -/
  | resendExpiry
  /-- RESPONSE_START_BIT (R90). -/
  | responseStartBit
  /-- FRAME_START_CHARACTER (R161): the framer takes a character A5h. -/
  | frameStartCharacter
  deriving DecidableEq, Repr

end Sys2Proof
end

