-- ==== Sys2Proof/WellFormed.lean ====
section
/-!
DEFINITION. Which commands the outside world can send: the check on a command's operands alone.
A request's payload and fields are NOT checked here beyond the frame's own limits: a wrong field is answered BAD_FIELD
(R168, R189), which is the command's meaning. The machine is defined on ill-formed commands too.
-/

namespace Sys2Proof

/-- The request types of R189. -/
def requestTypes : List Byte :=
  [0x01, 0x02, 0x10, 0x11, 0x12, 0x13, 0x14, 0x15, 0x20, 0x30, 0x31, 0x32, 0x33, 0x34, 0x35, 0x3E, 0x3F]

/-- A payload a host frame can carry: 0 to 280 bytes (R187). -/
def payloadFits (payload : List Byte) : Bool := decide (payload.length ≤ 280)

/-- Start bits of a train stand in time order inside the train; a start bit is the leading edge of a character of 10 bit
times, so the next one comes at least 10 bit times later (R84, R98). -/
def trainOrdered : List TrainStart → Bool
  | [] => true
  | [a] => decide (a.time < 372)
  | a :: b :: rest => decide (a.time + 10 ≤ b.time) && trainOrdered (b :: rest)

/-- The operands a command can have. -/
def Instr.wf : Instr → Bool
  | .postWrite _ p => payloadFits p
  | .broadcastWrite _ p => payloadFits p
  | .confirmWrite _ p => payloadFits p
  | .readRegs _ p => payloadFits p
  | .readBlock _ p => payloadFits p
  | .probeNode _ p => payloadFits p
  | .barrier _ p => payloadFits p
  | .cancelSlot _ p => payloadFits p
  | .noticeAck _ p => payloadFits p
  | .setNode _ p => payloadFits p
  | .getNode _ p => payloadFits p
  | .setParam _ p => payloadFits p
  | .getParam _ p => payloadFits p
  | .getStatus _ p => payloadFits p
  | .identify _ p => payloadFits p
  | .segmentReset _ p => payloadFits p
  | .partReset _ p => payloadFits p
  | .unknownTypeRequest _ t p => payloadFits p && !requestTypes.contains t
  | .replay _ _ p => payloadFits p
  | .frameReceived cs => !cs.isEmpty
  | .badFrame cs => !cs.isEmpty
  | .frameGapTimeout => true
  | .lineBreak _ => true
  | .frameTransmitted _ => true
  | .powerOn => true
  | .nrstLow => true
  | .partResetEnd _ => true
  | .holdExpiry => true
  | .settleExpiry => true
  | .segAttnAsserted => true
  | .segAttnReleased => true
  | .turnaroundExpiry => true
  | .commandSent => true
  | .responseWindowExpiry => true
  | .responseEnd cs => !cs.isEmpty && decide (cs.length ≤ 37)
  | .responseGapTimeout => true
  | .broadcastWindowExpiry => true
  | .surveyTrainEnd starts => trainOrdered starts
  | .headGapExpiry => true
  | .slotGapExpiry _ => true
  | .discardExpiry _ => true
  | .fetchEligibleExpiry _ => true
  | .surveyHoldoffExpiry => true
  | .resendExpiry => true
  | .responseStartBit => true
  | .frameStartCharacter => true

end Sys2Proof
end

