-- ==== Sys2Proof/Decode.lean ====
section
/-!
DEFINITION. The command a word of spec/opcode_table.json spells. No row of the table gives bits (every "fields" is
empty and no row has "fixed"), so no word spells a command.
-/

namespace Sys2Proof

/-- The command the word w of nbits bits spells by the table's bits: none, since no row gives bits. -/
def decodeTableWord (_nbits _w : Nat) : Option Instr := none

end Sys2Proof
end

