-- ==== Sys2Proof/Machine/State.lean ====
section
/-!
DEFINITION. The state of the SB-416 as plain data, block by block (spec 00_scope.md, Block diagram), with its value right
after a part reset. Deadlines are the interval they were started with (notes/assumptions/4.md).
-/

namespace Sys2Proof.Machine

/-- Why a step can stop with a fault: never. No rule of the spec stops the part; what the manual calls a fault is a
FAULT notice, which is state (R147). The type is closed and empty. -/
inductive Fault where
  deriving DecidableEq, Repr

/-- Why a command has no meaning. -/
inductive Refusal where
  /-- Raised by an arm of exec for a command that has no meaning yet; safe. No arm raises it now. -/
  | notModelled (mnemonic : String)
  deriving DecidableEq, Repr

/-! ### Node Table (R108) -/

inductive Presence where
  | unknown | present | absent
  deriving DecidableEq, Repr

/-- A node's packet size attribute (R117). -/
inductive PacketSize where
  | p8 | p16 | p32
  deriving DecidableEq, Repr

def PacketSize.bytes : PacketSize → Nat
  | .p8 => 8
  | .p16 => 16
  | .p32 => 32

/-- One record of the Node Table (R108). -/
structure NodeRecord where
  presence : Presence
  silence : Nat
  postable : Bool
  packetSize : PacketSize
  identity : Option (List Byte)
  refuseReason : Option Byte
  fetchToggle : Bool
  fetchEligible : Option Nat
  deriving DecidableEq, Repr

/-- A record after part reset (R123). -/
def NodeRecord.fresh : NodeRecord :=
  { presence := .unknown, silence := 0, postable := true, packetSize := .p32, identity := none,
    refuseReason := none, fetchToggle := false, fetchEligible := none }

/-! ### Posted Write Queue (R1, R8) -/

/-- A posted write. target is none for a broadcast, node 0 (R1). -/
structure Entry where
  number : Half
  target : Option NodeId
  addr : Half
  data : List Byte
  delivered : Nat
  attempts : Nat
  originSeq : Byte
  deriving DecidableEq, Repr

/-- The head state, with the gap deadline it holds in GAP only (R1, R8). -/
inductive HeadState where
  | ready
  | inFlight
  | gap (deadline : Nat)
  deriving DecidableEq, Repr

/-- A queue that is not empty: its head with what the head alone holds, and the entries behind it (R8). -/
structure HeadedQueue where
  head : Entry
  headState : HeadState
  repeatPending : Bool
  behind : List Entry
  deriving DecidableEq, Repr

structure Pwq where
  queue : Option HeadedQueue
  nextNumber : Half
  lossCount : Nat
  deriving DecidableEq, Repr

/-! ### Delayed Request Table (R21, R22, R49) -/

/-- The fields of a delayed request that make its key (R23): two keys are equal exactly when these are. -/
inductive DelayedReq where
  | confirmWrite (node : NodeId) (addr : Half) (data : List Byte)
  | readRegs (node : NodeId) (addr : Half) (count : Nat)
  | readBlock (node : NodeId) (addr : Half) (count : Nat)
  | probeNode (node : NodeId)
  | barrier
  deriving DecidableEq, Repr

/-- The states of a slot that is not FREE (R21). -/
inductive SlotState where
  | waiting | active | complete | orphaned
  deriving DecidableEq, Repr

inductive ResultStatus where
  | ok
  | refused (reason : Byte)
  | nodeAbsent
  | retryExhausted
  | segmentReset
  deriving DecidableEq, Repr

/-- A data notice stamp: absent until set, then none (clear) or a notice number (R22, R66). -/
inductive NoticeStamp where
  | absent
  | clear
  | held (number : Half)
  deriving DecidableEq, Repr

/-- The record of a slot that is not FREE (R22, R37, R49). data is the result data, or the block buffer of a READ_BLOCK. -/
structure Slot where
  req : DelayedReq
  notify : Bool
  state : SlotState
  postingStamp : Option Half
  attempts : Nat
  repeatPending : Bool
  gap : Option Nat
  bytesDelivered : Nat
  bytesReceived : Nat
  data : List Byte
  fetchCursor : Nat
  deliveryCursor : Nat
  lossCount : Nat
  result : Option ResultStatus
  dataStamp : NoticeStamp
  discard : Option Nat
  deriving DecidableEq, Repr

/-- The eight slots (none is FREE) and the delayed order list, head first (R21, R24). -/
structure Drt where
  slots : Vector (Option Slot) 8
  order : List SlotId
  deriving DecidableEq, Repr

/-! ### Segment Scheduler and Segment Engine (R72, R86) -/

structure Scheduler where
  delayedShare : Nat
  collectShare : Nat
  deriving DecidableEq, Repr

/-- Who holds the grant; for D, the slot granted (R72, R86). -/
inductive Requester where
  | p
  | d (slot : SlotId)
  | c
  deriving DecidableEq, Repr

inductive CommandKind where
  | wr | rd | fetch | survey | probe
  deriving DecidableEq, Repr

/-- The address of a command: 0, 1..30 or 31 (R87). -/
inductive Target where
  | broadcast
  | node (n : NodeId)
  | survey
  deriving DecidableEq, Repr

/-- A command packet's fields as the requester gives them at the grant (R87, R88). -/
structure Command where
  kind : CommandKind
  target : Target
  regAddr : Half
  length : Nat
  data : List Byte
  repeatFlag : Bool
  toggle : Bool
  deriving DecidableEq, Repr

inductive Phase where
  | turnaround | sending | listening | receiving | window | train
  deriving DecidableEq, Repr

/-- The transaction record, held while a grant is held (R72, R86), with the command packet that the part drives on the
pair: its bytes from sync to CRC while it is SENDING, none in every other phase (R85, R87, R192). -/
structure Transaction where
  requester : Requester
  cmd : Command
  phase : Phase
  driven : Option (List Byte)
  windowDeadline : Option Nat
  received : List RxChar
  deriving DecidableEq, Repr

/-- The engine: its record, and the bus turnaround while it runs (R85). -/
structure Engine where
  txn : Option Transaction
  turnaround : Option Nat
  deriving DecidableEq, Repr

/-! ### Segment Control (R102) -/

inductive SegState where
  | resetting | settling | running
  deriving DecidableEq, Repr

inductive RestartCause where
  | powerOn | partReset | request
  deriving DecidableEq, Repr

structure SegControl where
  state : SegState
  hold : Option Nat
  settle : Option Nat
  cause : RestartCause
  bitRate : Option Nat
  deriving DecidableEq, Repr

/-! ### Attention Unit (R124) -/

structure Member where
  node : NodeId
  repeatMark : Bool
  deriving DecidableEq, Repr

/-- The attention set is kept in ascending node order; the order has no meaning (R124; notes/assumptions/18.md). -/
structure Attention where
  members : List Member
  pointer : Option NodeId
  holdoff : Option Nat
  deriving DecidableEq, Repr

/-! ### Notice Block (R143) -/

/-- Reasons a single posted write is lost (R17). -/
inductive LossReason where
  | retryExhausted
  | refused (reason : Byte)
  | nodeAbsent
  deriving DecidableEq, Repr

/-- What a FAULT carries beside the lost-fault count (R147). countField is the count or length, or a BARRIER's
posted-loss count; 0 where the kind has none. -/
inductive FaultDetail where
  | writeLost (number : Half) (originSeq : Byte) (target : Option NodeId) (addr : Half) (length delivered : Nat)
      (reason : LossReason)
  | writeLostSummary (count : Nat) (first last : Half)
  | completionDiscarded (slot : SlotId) (req : DelayedReq) (countField : Nat) (result : Option ResultStatus)
      (leftover : Nat)
  | linkOverrun (seq : Byte)
  | segmentRestarted (cause : RestartCause) (rate : Option Nat)
  deriving DecidableEq, Repr

inductive NoticePayload where
  | report (node : NodeId) (code : Byte) (data : List Byte)
  | fault (lost : Nat) (detail : FaultDetail)
  deriving DecidableEq, Repr

inductive NoticeState where
  | unsent | sent
  deriving DecidableEq, Repr

/-- One entry of the Notice Queue (R144). -/
structure Notice where
  number : Half
  payload : NoticePayload
  state : NoticeState
  sendCount : Nat
  deriving DecidableEq, Repr

/-- The Notice Block. The Ready List, unordered by R158, is kept in ascending slot order
(notes/assumptions/18.md). -/
structure NoticeBlock where
  queue : List Notice
  next : Half
  lostFaults : Nat
  resend : Option Nat
  ready : List SlotId
  deriving DecidableEq, Repr

/-! ### Parameters and counters (R181, R176) -/

inductive ParamId where
  | attemptLimit | responseWindow | retryGap | discardTime | noticeWindow | resendTime | delayedShare | collectShare
  | silenceLimit | segBitRate | segResetHold | segSettle | surveyHoldoff
  deriving DecidableEq, Repr

structure Params where
  attemptLimit : Nat
  responseWindow : Nat
  retryGap : Nat
  discardTime : Nat
  noticeWindow : Nat
  resendTime : Nat
  delayedShare : Nat
  collectShare : Nat
  silenceLimit : Nat
  segBitRate : Nat
  segResetHold : Nat
  segSettle : Nat
  surveyHoldoff : Nat
  deriving DecidableEq, Repr

/-- The defaults of R181. -/
def Params.default : Params :=
  { attemptLimit := 256, responseWindow := 64, retryGap := 2000, discardTime := 5000, noticeWindow := 4,
    resendTime := 200, delayedShare := 8, collectShare := 4, silenceLimit := 3, segBitRate := 2,
    segResetHold := 10, segSettle := 50, surveyHoldoff := 5 }

structure Counters where
  postedDelivered : Count32
  postedLost : Count32
  delayedCompleted : Count32
  completionsDiscarded : Count32
  transactionsSent : Count32
  noResponses : Count32
  garbled : Count32
  badFrames : Count32
  overruns : Count32
  replays : Count32
  refusals : Count32
  deriving DecidableEq, Repr

def Counters.zero : Counters :=
  { postedDelivered := 0, postedLost := 0, delayedCompleted := 0, completionsDiscarded := 0, transactionsSent := 0,
    noResponses := 0, garbled := 0, badFrames := 0, overruns := 0, replays := 0, refusals := 0 }

/-! ### Answers (R190) -/

inductive RefusalStatus where
  | badType | badField | tooLong | queueFull | tableFull | nodeAbsent | noSuchSlot | ackRange | badParam
  deriving DecidableEq, Repr

inductive HoldReason where
  | posted | queued | gap | inFlight | segment | order
  deriving DecidableEq, Repr

/-- What a RESULT carries by kind (R30, R58). -/
inductive ResultTail where
  | confirmWrite (delivered : Nat)
  | readRegs (received : Nat) (data : List Byte)
  | readBlock (offset : Nat) (data : List Byte)
  | probeNode (identity : Option (List Byte))
  | barrier (lossCount : Nat)
  deriving DecidableEq, Repr

/-- The kinds of R195 without absent. -/
inductive Kind where
  | confirmWrite | readRegs | readBlock | probeNode | barrier
  deriving DecidableEq, Repr

/-- What GET_STATUS carries (R176). -/
structure StatusBlock where
  pwqEntries : Nat
  pwqBytes : Nat
  headState : Option HeadState
  postedLoss : Nat
  slots : List (Option (SlotState × Kind))
  segState : SegState
  noticeCount : Nat
  sentCount : Nat
  nextNotice : Half
  lostFaults : Nat
  attentionSize : Nat
  counters : Counters
  deriving DecidableEq, Repr

/-- An answer: its status with what it carries (R190). -/
inductive Answer where
  | refused (status : RefusalStatus)
  | accepted (number : Half)
  | deferred (slot : SlotId) (state : SlotState) (reason : HoldReason)
  | partialData (slot : SlotId) (state : SlotState) (offset : Nat) (data : List Byte)
  | result (slot : SlotId) (status : Option ResultStatus) (tail : ResultTail)
  | doneCancel (slot : SlotId)
  | doneAck (removed left : Nat)
  | doneNode (node : NodeId) (record : NodeRecord)
  | doneSetParam (id : ParamId) (stored replaced : Nat)
  | doneGetParam (id : ParamId) (stored default : Nat)
  | doneStatus (block : StatusBlock)
  | doneIdentify
  | doneSegmentReset (taken : SegState)
  | donePartReset
  deriving DecidableEq, Repr

/-! ### Link Interface (R161 to R170) -/

/-- A host frame without its start character, length and CRC (R187). -/
structure Frame where
  seq : Byte
  type : Byte
  payload : List Byte
  deriving DecidableEq, Repr

/-- The receive framer, with the characters of the frame taken so far (R161). -/
inductive Framer where
  | hunt
  | length (got : List Byte)
  | body (lengthBytes : List Byte) (length : Nat) (got : List Byte)
  | check (covered body : List Byte) (got : List Byte)
  deriving DecidableEq, Repr

/-- An answer with the sequence and type of the frame it was built for (R167, R187). -/
structure StoredAnswer where
  seq : Byte
  type : Byte
  answer : Answer
  deriving DecidableEq, Repr

inductive PlaceState where
  | waiting
  | answered (answer : StoredAnswer)
  | sending (answer : StoredAnswer)
  deriving DecidableEq, Repr

/-- A taken place of the Inbound Frame Buffer (R164). -/
structure Place where
  frame : Frame
  state : PlaceState
  deriving DecidableEq, Repr

inductive OutKind where
  | hello
  | linkNak
  | answer
  | notice (number : Half)
  | hint (slot : SlotId)
  deriving DecidableEq, Repr

/-- The frame on TXD: what it is, and its bytes from start character to CRC (R170, R187). -/
structure Outgoing where
  kind : OutKind
  bytes : List Byte
  deriving DecidableEq, Repr

inductive ResetCause where
  | powerOn | pin | request
  deriving DecidableEq, Repr

/-- The LIF with the dispatcher. places are the taken places in arrival order; store is oldest first (R164, R167). -/
structure Link where
  framer : Framer
  newestPlaced : Option Byte
  places : List Place
  store : List StoredAnswer
  nakPending : Bool
  tx : Option Outgoing
  helloOffered : Bool
  resetCause : ResetCause
  lspd : BitVec 2
  stopped : Bool
  deriving DecidableEq, Repr

/-! ### The whole part -/

structure State where
  /-- The part is held in reset, with the cause so far (R178). -/
  held : Option ResetCause
  pwq : Pwq
  drt : Drt
  sched : Scheduler
  engine : Engine
  seg : SegControl
  /-- The level of the SEG_RST output: true is asserted (R103, R104). -/
  segRst : Bool
  /-- The level of the SEG_ATTN line: true is asserted (R125). -/
  segAttn : Bool
  nodes : Vector NodeRecord 30
  attn : Attention
  notices : NoticeBlock
  link : Link
  params : Params
  counters : Counters
  /-- The commands waiting, first in first out (the block's own queue of the interface, not the spec's). -/
  pending : List Instr
  deriving DecidableEq, Repr

/-- The restart cause of the segment after a part reset of this cause (R178). -/
def ResetCause.restart : ResetCause → RestartCause
  | .powerOn => .powerOn
  | .pin => .partReset
  | .request => .partReset

/-- Every block at its part-reset values, the segment entering RESETTING, HELLO offered, the transmitter idle
(R20, R47, R72, R102, R123, R141, R157, R175, R177). The SEG_ATTN level and the waiting commands are the outside
world's and are given. -/
def State.afterPartReset (cause : ResetCause) (lspd : BitVec 2) (segAttn : Bool) (pending : List Instr) : State :=
  { held := none
    pwq := { queue := none, nextNumber := 0, lossCount := 0 }
    drt := { slots := Vector.replicate 8 none, order := [] }
    sched := { delayedShare := 0, collectShare := 0 }
    engine := { txn := none, turnaround := none }
    seg := { state := .resetting, hold := some Params.default.segResetHold, settle := none, cause := cause.restart,
             bitRate := none }
    segRst := true
    segAttn := segAttn
    nodes := Vector.replicate 30 NodeRecord.fresh
    attn := { members := [], pointer := none, holdoff := none }
    notices := { queue := [], next := 0, lostFaults := 0, resend := none, ready := [] }
    link := { framer := .hunt, newestPlaced := none, places := [], store := [], nakPending := false, tx := none,
              helloOffered := true, resetCause := cause, lspd := lspd, stopped := false }
    params := Params.default
    counters := Counters.zero
    pending := pending }

/-- The part right after a power-on reset, before the outbound arbiter's first decision (R175, R177;
notes/assumptions/20.md). LSPD1..0 at 0 and SEG_ATTN released are design choices (notes/assumptions/9.md, 10.md). -/
def State.reset : State := State.afterPartReset .powerOn 0 false []

end Sys2Proof.Machine
end

