-- ==== Sys2Proof/Machine/Flags.lean ====
section
/-!
DEFINITION. What the blocks read off the state without changing it: the accessors, the conditions the rules test, and
the status values derived from them (hold reasons R29, candidates R74 to R76, offers R126 R149, GET_STATUS R176).
-/

namespace Sys2Proof.Machine

/-- The eight slot numbers, lowest first. -/
def allSlots : List SlotId := List.finRange 8

/-- The thirty nodes, lowest address first. -/
def allNodes : List NodeId := List.finRange 30

/-- The record of slot i, none for FREE (R21). -/
def State.slot (s : State) (i : SlotId) : Option Slot := s.drt.slots[i]

/-- The Node Table's record of a node (R108). -/
def State.node (s : State) (n : NodeId) : NodeRecord := s.nodes[n]

/-- The Node Table shows the node ABSENT (R108). -/
def State.absent (s : State) (n : NodeId) : Bool := (s.node n).presence == .absent

/-! ### Posted Write Queue -/

/-- The entries in acceptance order, head first (R2). -/
def Pwq.entries (q : Pwq) : List Entry :=
  match q.queue with
  | none => []
  | some h => h.head :: h.behind

/-- The byte occupancy (R2). -/
def Pwq.bytes (q : Pwq) : Nat := (q.entries.map fun e => e.data.length).sum

/-- The number of the newest entry, or none for an empty queue (R3). -/
def Pwq.newest (q : Pwq) : Option Half := q.entries.getLast?.map (·.number)

/-- Room for a write of n data bytes: neither limit of R2 refuses it (R4, R6). -/
def Pwq.hasRoom (q : Pwq) (n : Nat) : Bool :=
  decide (q.entries.length < Config.pwqEntries) && decide (q.bytes + n ≤ Config.pwqBytes)

/-- The head's node is ABSENT; a broadcast has no node (R16). -/
def State.headAbsent (s : State) (e : Entry) : Bool :=
  match e.target with
  | some n => s.absent n
  | none => false

/-! ### Delayed Request Table -/

def DelayedReq.node? : DelayedReq → Option NodeId
  | .confirmWrite n _ _ => some n
  | .readRegs n _ _ => some n
  | .readBlock n _ _ => some n
  | .probeNode n => some n
  | .barrier => none

def DelayedReq.addr? : DelayedReq → Option Half
  | .confirmWrite _ a _ => some a
  | .readRegs _ a _ => some a
  | .readBlock _ a _ => some a
  | .probeNode _ => none
  | .barrier => none

def DelayedReq.kind : DelayedReq → Kind
  | .confirmWrite _ _ _ => .confirmWrite
  | .readRegs _ _ _ => .readRegs
  | .readBlock _ _ _ => .readBlock
  | .probeNode _ => .probeNode
  | .barrier => .barrier

/-- The count or data length, 0 where the kind has none (R22). -/
def DelayedReq.count : DelayedReq → Nat
  | .confirmWrite _ _ d => d.length
  | .readRegs _ _ c => c
  | .readBlock _ _ c => c
  | .probeNode _ => 0
  | .barrier => 0

/-- The node whose absence refuses the request (R25) and completes its slot at the offer (R32): none for PROBE_NODE and
BARRIER. -/
def DelayedReq.guardedNode? : DelayedReq → Option NodeId
  | .probeNode _ => none
  | r => r.node?

/-- WAITING, ACTIVE and COMPLETE are live (R21). -/
def SlotState.live : SlotState → Bool
  | .orphaned => false
  | _ => true

/-- The request is blocked by an ABSENT node (R25, R32). -/
def State.reqAbsent (s : State) (r : DelayedReq) : Bool :=
  match r.guardedNode? with
  | some n => s.absent n
  | none => false

/-- Slot i is live and has this key (R23). -/
def State.matchesKey (s : State) (r : DelayedReq) (i : SlotId) : Bool :=
  match s.slot i with
  | some sl => sl.state.live && sl.req == r
  | none => false

/-- The live slot whose key is equal to the request's (R25). -/
def State.liveMatch (s : State) (r : DelayedReq) : Option SlotId := allSlots.find? (s.matchesKey r)

/-- The lowest-numbered FREE slot (R26). -/
def State.lowestFree (s : State) : Option SlotId := allSlots.find? fun i => (s.slot i).isNone

/-- A segment transaction granted to slot i is running (R21). -/
def State.inFlight (s : State) (i : SlotId) : Bool :=
  match s.engine.txn with
  | some t => t.requester == .d i
  | none => false

/-- Slot i is ACTIVE, idle between packets (R21). -/
def State.idleActive (s : State) (i : SlotId) : Bool :=
  match s.slot i with
  | some sl => sl.state == .active && !s.inFlight i
  | none => false

/-- Slot i is WAITING and eligible (R32). -/
def State.eligible (s : State) (i : SlotId) : Bool :=
  match s.slot i with
  | some sl =>
    sl.state == .waiting && sl.postingStamp.isNone && sl.gap.isNone && s.seg.state == .running && sl.req != .barrier
  | none => false

/-- Slot i would be completed NODE_ABSENT instead of being offered (R32). -/
def State.offerAbsent (s : State) (i : SlotId) : Bool :=
  match s.slot i with
  | some sl => s.reqAbsent sl.req
  | none => false

/-- A WAITING BARRIER whose posting stamp is none (R37). -/
def State.clearBarrier (s : State) (i : SlotId) : Bool :=
  match s.slot i with
  | some sl => sl.state == .waiting && sl.req == .barrier && sl.postingStamp.isNone
  | none => false

/-- The hold reason of a DEFERRED, in the order of the table of R29. -/
def State.holdReason (s : State) (i : SlotId) (sl : Slot) : HoldReason :=
  match sl.state with
  | .waiting =>
    if sl.postingStamp.isSome then .posted
    else if s.seg.state != .running then .segment
    else if sl.gap.isSome then .gap
    else .queued
  | .active => if s.inFlight i then .inFlight else .queued
  | .complete => .order
  | .orphaned => .order

/-- What a RESULT carries for the slot's kind (R30, R58). -/
def Slot.tail (sl : Slot) : ResultTail :=
  match sl.req with
  | .confirmWrite _ _ _ => .confirmWrite sl.bytesDelivered
  | .readRegs _ _ _ => .readRegs sl.bytesReceived sl.data
  | .readBlock _ _ _ => .readBlock sl.deliveryCursor ((sl.data.take sl.fetchCursor).drop sl.deliveryCursor)
  | .probeNode _ => .probeNode (if sl.result = some .ok then some sl.data else none)
  | .barrier => .barrier sl.lossCount

/-- What the count field of COMPLETION_DISCARDED carries (R42). -/
def Slot.discardCount (sl : Slot) : Nat :=
  match sl.req with
  | .barrier => sl.lossCount
  | r => r.count

/-- The leftover count of COMPLETION_DISCARDED, zero unless the kind is READ_BLOCK (R61, R191). -/
def Slot.leftover (sl : Slot) : Nat :=
  match sl.req with
  | .readBlock _ _ _ => sl.fetchCursor - sl.deliveryCursor
  | _ => 0

/-! ### Notice Block -/

/-- The stamp that names the newest entry, or none when the queue is empty (R66, R143). -/
def NoticeBlock.newest (b : NoticeBlock) : NoticeStamp :=
  match b.queue.getLast? with
  | some e => .held e.number
  | none => .clear

/-- Fewer than 24 entries are held (R145). -/
def NoticeBlock.hasRoom (b : NoticeBlock) : Bool := decide (b.queue.length < Config.noticeEntries)

def NoticeBlock.sentCount (b : NoticeBlock) : Nat := b.queue.countP (·.state == .sent)

/-- The notice on offer: the oldest UNSENT entry, while fewer than the window are SENT (R149). -/
def NoticeBlock.offer (b : NoticeBlock) (window : Nat) : Option Notice :=
  if b.sentCount < window then b.queue.find? (·.state == .unsent) else none

/-! ### Attention Unit -/

/-- The nodes in the order of the search that starts just after the rotation pointer (R127). -/
def rotation : Option NodeId → List NodeId
  | none => allNodes
  | some p => allNodes.drop (p.val + 1) ++ allNodes.take (p.val + 1)

def Attention.has (a : Attention) (n : NodeId) : Bool := a.members.any (·.node == n)

/-- The member's repeat mark (R124). -/
def Attention.mark (a : Attention) (n : NodeId) : Bool := a.members.any fun m => m.node == n && m.repeatMark

/-- The member a FETCH would go to: the first of the rotation with fetch eligible time none (R127). -/
def State.nextFetch (s : State) : Option NodeId :=
  (rotation s.attn.pointer).find? fun n => s.attn.has n && (s.node n).fetchEligible.isNone

inductive CollectOffer where
  | fetch (n : NodeId)
  | survey
  deriving DecidableEq, Repr

/-- The Attention Unit's collect work, by the cases of R126. -/
def State.collectOffer (s : State) : Option CollectOffer :=
  if s.seg.state != .running then none
  else
    match s.nextFetch with
    | some n => some (.fetch n)
    | none => if s.attn.members.isEmpty && s.segAttn && s.attn.holdoff.isNone then some .survey else none

/-! ### Candidates of the Segment Scheduler -/

/-- Candidate P is present (R74). -/
def State.candidateP (s : State) : Bool :=
  match s.pwq.queue with
  | some q => q.headState == .ready
  | none => false

/-- Candidate C: the offer, while the Notice Queue holds 19 entries or fewer (R76). -/
def State.candidateC (s : State) : Option CollectOffer :=
  if s.notices.queue.length ≤ Config.collectGate then s.collectOffer else none

/-- The slots the DRT looks through for candidate D, in order: the ACTIVE slot idle between packets, then the eligible
slots of the delayed order list (R32, R75). -/
def State.offerList (s : State) : List SlotId := allSlots.filter s.idleActive ++ s.drt.order.filter s.eligible

/-! ### GET_STATUS -/

/-- The values GET_STATUS carries (R176). -/
def State.status (s : State) : StatusBlock :=
  { pwqEntries := s.pwq.entries.length
    pwqBytes := s.pwq.bytes
    headState := s.pwq.queue.map (·.headState)
    postedLoss := s.pwq.lossCount
    slots := allSlots.map fun i => (s.slot i).map fun sl => (sl.state, sl.req.kind)
    segState := s.seg.state
    noticeCount := s.notices.queue.length
    sentCount := s.notices.sentCount
    nextNotice := s.notices.next
    lostFaults := s.notices.lostFaults
    attentionSize := s.attn.members.length
    counters := s.counters }

end Sys2Proof.Machine
end

