-- ==== Sys2Proof/Machine/Formats.lean ====
section
/-!
DEFINITION. Every byte layout and code of spec 11_frame_and_packet_formats.md that the part sends, and the two CRC-16
checks (R187 to R195). Multi-byte fields go most significant byte first (R187).
-/

namespace Sys2Proof.Machine

/-! ### Numbers and CRC -/

def byte (n : Nat) : Byte := BitVec.ofNat 8 n

def halfBytes (v : Half) : List Byte := [v.extractLsb' 8 8, v.extractLsb' 0 8]

def numBytes (n : Nat) : List Byte := halfBytes (BitVec.ofNat 16 n)

def count32Bytes (v : Count32) : List Byte :=
  [v.extractLsb' 24 8, v.extractLsb' 16 8, v.extractLsb' 8 8, v.extractLsb' 0 8]

def flagByte (b : Bool) : Byte := if b then 1 else 0

/-- The 16-bit number of two bytes, most significant first. -/
def half (hi lo : Byte) : Half := hi ++ lo

/-- One covered bit: combined with the top bit of the register, which moves up one place and takes the polynomial when
the combined bit is 1 (R194). -/
def crcBit (poly reg : Half) (bit : Bool) : Half :=
  if (reg.getLsbD 15) ^^ bit then (reg <<< 1) ^^^ poly else reg <<< 1

/-- One covered byte, most significant bit first (R194). -/
def crcByte (poly reg : Half) (b : Byte) : Half :=
  [7, 6, 5, 4, 3, 2, 1, 0].foldl (fun r i => crcBit poly r (b.getLsbD i)) reg

/-- The host CRC (R194). -/
def hostCrc (bytes : List Byte) : Half := bytes.foldl (crcByte 0x1021) 0xFFFF

/-- The segment CRC (R194). -/
def segmentCrc (bytes : List Byte) : Half := bytes.foldl (crcByte 0x8005) 0

/-! ### Codes of R195 -/

def RefusalStatus.code : RefusalStatus → Byte
  | .badType => 0x80
  | .badField => 0x81
  | .tooLong => 0x82
  | .queueFull => 0x83
  | .tableFull => 0x84
  | .nodeAbsent => 0x85
  | .noSuchSlot => 0x86
  | .ackRange => 0x87
  | .badParam => 0x88

/-- The result code with the refuse reason byte, 0 for absent; both 0 where no status is set (R188, R195). -/
def ResultStatus.code : ResultStatus → Byte
  | .ok => 0
  | .refused _ => 1
  | .nodeAbsent => 2
  | .retryExhausted => 3
  | .segmentReset => 4

def ResultStatus.reason : ResultStatus → Byte
  | .refused r => r
  | _ => 0

def statusBytes : Option ResultStatus → List Byte
  | some r => [r.code, r.reason]
  | none => [0, 0]

def HoldReason.code : HoldReason → Byte
  | .posted => 1
  | .queued => 2
  | .gap => 3
  | .inFlight => 4
  | .segment => 5
  | .order => 6

/-- FREE is 0 (R195). -/
def SlotState.code : SlotState → Byte
  | .waiting => 1
  | .active => 2
  | .complete => 3
  | .orphaned => 4

def Kind.code : Kind → Byte
  | .confirmWrite => 1
  | .readRegs => 2
  | .readBlock => 3
  | .probeNode => 4
  | .barrier => 5

def LossReason.code : LossReason → Byte
  | .retryExhausted => 1
  | .refused _ => 2
  | .nodeAbsent => 3

def LossReason.reason : LossReason → Byte
  | .refused r => r
  | _ => 0

def HeadState.code : HeadState → Byte
  | .ready => 1
  | .inFlight => 2
  | .gap _ => 3

def SegState.code : SegState → Byte
  | .resetting => 1
  | .settling => 2
  | .running => 3

def Presence.code : Presence → Byte
  | .unknown => 1
  | .present => 2
  | .absent => 3

def RestartCause.code : RestartCause → Byte
  | .powerOn => 1
  | .partReset => 2
  | .request => 3

def ResetCause.code : ResetCause → Byte
  | .powerOn => 1
  | .pin => 2
  | .request => 3

def CommandKind.code : CommandKind → Byte
  | .wr => 0x01
  | .rd => 0x02
  | .fetch => 0x03
  | .survey => 0x04
  | .probe => 0x05

def ParamId.code : ParamId → Byte
  | .attemptLimit => 1
  | .responseWindow => 2
  | .retryGap => 3
  | .discardTime => 4
  | .noticeWindow => 5
  | .resendTime => 6
  | .delayedShare => 7
  | .collectShare => 8
  | .silenceLimit => 9
  | .segBitRate => 10
  | .segResetHold => 11
  | .segSettle => 12
  | .surveyHoldoff => 13

def nodeByte (n : NodeId) : Byte := byte (n.val + 1)

/-- The node of a field that may be absent, or of a broadcast: 0 (R188). -/
def nodeByte? : Option NodeId → Byte
  | some n => nodeByte n
  | none => 0

def addrBytes? : Option Half → List Byte
  | some a => halfBytes a
  | none => [0, 0]

def slotByte (i : SlotId) : Byte := byte i.val

/-! ### Answer payloads (R190) -/

def ResultTail.kind : ResultTail → Kind
  | .confirmWrite _ => .confirmWrite
  | .readRegs _ _ => .readRegs
  | .readBlock _ _ => .readBlock
  | .probeNode _ => .probeNode
  | .barrier _ => .barrier

def ResultTail.bytes : ResultTail → List Byte
  | .confirmWrite d => [byte d]
  | .readRegs m d => byte m :: d
  | .readBlock o d => numBytes o ++ numBytes d.length ++ d
  | .probeNode (some ident) => ident
  | .probeNode none => [0, 0, 0, 0]
  | .barrier c => numBytes c

/-- The node record of SET_NODE and GET_NODE, 13 bytes (R190). -/
def nodeRecordBytes (n : NodeId) (r : NodeRecord) : List Byte :=
  [nodeByte n, r.presence.code, byte r.silence, flagByte r.postable, byte r.packetSize.bytes]
    ++ (match r.identity with
        | some ident => 1 :: ident
        | none => [0, 0, 0, 0, 0])
    ++ [r.refuseReason.getD 0, flagByte r.fetchToggle, flagByte r.fetchEligible.isSome]

/-- The eleven counters in the order of R176. -/
def Counters.bytes (c : Counters) : List Byte :=
  count32Bytes c.postedDelivered ++ count32Bytes c.postedLost ++ count32Bytes c.delayedCompleted
    ++ count32Bytes c.completionsDiscarded ++ count32Bytes c.transactionsSent ++ count32Bytes c.noResponses
    ++ count32Bytes c.garbled ++ count32Bytes c.badFrames ++ count32Bytes c.overruns ++ count32Bytes c.replays
    ++ count32Bytes c.refusals

/-- The status block of GET_STATUS, 73 bytes (R190). -/
def StatusBlock.bytes (b : StatusBlock) : List Byte :=
  [byte b.pwqEntries] ++ numBytes b.pwqBytes ++ [(b.headState.map HeadState.code).getD 0] ++ numBytes b.postedLoss
    ++ b.slots.flatMap (fun e => match e with
        | some (st, k) => [st.code, k.code]
        | none => [0, 0])
    ++ [b.segState.code, byte b.noticeCount, byte b.sentCount] ++ halfBytes b.nextNotice
    ++ [byte b.lostFaults, byte b.attentionSize] ++ b.counters.bytes

/-- The identity block of IDENTIFY, 13 bytes (R186, R190). -/
def identityBytes : List Byte :=
  halfBytes Config.vendorCode ++ halfBytes Config.partCode ++ [Config.siliconRevision, byte Config.pwqEntries]
    ++ numBytes Config.pwqBytes ++ [byte Config.slotCount, byte Config.noticeEntries, byte Config.nodeCount,
    byte Config.framePlaces, byte Config.storedAnswers]

/-- The payload of an answer: the status byte and what the status and the request type call for (R190). -/
def Answer.payload : Answer → List Byte
  | .refused r => [r.code]
  | .accepted n => 0x00 :: halfBytes n
  | .deferred i st r => [0x01, slotByte i, st.code, r.code]
  | .partialData i st o d => [0x02, slotByte i, st.code] ++ numBytes o ++ numBytes d.length ++ d
  | .result i r t => [0x03, slotByte i, t.kind.code] ++ statusBytes r ++ t.bytes
  | .doneCancel i => [0x04, slotByte i]
  | .doneAck removed left => [0x04, byte removed, byte left]
  | .doneNode n r => 0x04 :: nodeRecordBytes n r
  | .doneSetParam p v old => [0x04, p.code] ++ numBytes v ++ numBytes old
  | .doneGetParam p v d => [0x04, p.code] ++ numBytes v ++ numBytes d
  | .doneStatus b => 0x04 :: b.bytes
  | .doneIdentify => 0x04 :: identityBytes
  | .doneSegmentReset st => [0x04, st.code]
  | .donePartReset => [0x04]

/-- Success statuses lie below 80h, refusals at 80h and above (R195). -/
def Answer.isRefusal : Answer → Bool
  | .refused _ => true
  | _ => false

/-! ### Notice, hint, LINK_NAK and HELLO payloads (R191) -/

def FaultDetail.bytes (lost : Nat) : FaultDetail → List Byte
  | .writeLost num seq target addr len del reason =>
    [1, byte lost, reason.code] ++ halfBytes num ++ [seq, nodeByte? target] ++ halfBytes addr
      ++ [byte len, byte del, reason.reason]
  | .writeLostSummary c first last => [1, byte lost, 4, byte c] ++ halfBytes first ++ halfBytes last
  | .completionDiscarded i req c res left =>
    [2, byte lost, slotByte i, req.kind.code, nodeByte? req.node?] ++ addrBytes? req.addr? ++ numBytes c
      ++ statusBytes res ++ numBytes left
  | .linkOverrun seq => [3, byte lost, seq]
  | .segmentRestarted cause rate => [4, byte lost, cause.code, byte (rate.getD 0)]

def NoticePayload.kindByte : NoticePayload → Byte
  | .report _ _ _ => 1
  | .fault _ _ => 2

def NoticePayload.bytes : NoticePayload → List Byte
  | .report n code data => [nodeByte n, code, byte data.length] ++ data
  | .fault lost d => d.bytes lost

/-- The payload of a notice frame: number, kind, send count, then the kind's fields (R191). -/
def Notice.framePayload (e : Notice) : List Byte :=
  halfBytes e.number ++ [e.payload.kindByte, byte e.sendCount] ++ e.payload.bytes

/-- The payload of a ready hint, built from the slot's record (R159, R191). -/
def hintPayload (i : SlotId) (sl : Slot) : List Byte :=
  [slotByte i, sl.req.kind.code, nodeByte? sl.req.node?] ++ addrBytes? sl.req.addr?

/-- The payload of a LINK_NAK (R163, R191). -/
def nakPayload : Option Byte → List Byte
  | some seq => [1, seq]
  | none => [0, 0]

/-- The payload of HELLO (R180, R191). -/
def helloPayload (cause : ResetCause) (lspd : BitVec 2) : List Byte :=
  [cause.code, lspd.zeroExtend 8, Config.siliconRevision]

/-! ### The host frame (R187) -/

/-- What the host CRC covers: length, sequence, type, payload (R194). -/
def frameCovered (seq type : Byte) (payload : List Byte) : List Byte :=
  numBytes (payload.length + 2) ++ [seq, type] ++ payload

/-- A host frame from start character to CRC (R187). -/
def frameBytes (seq type : Byte) (payload : List Byte) : List Byte :=
  0xA5 :: frameCovered seq type payload ++ halfBytes (hostCrc (frameCovered seq type payload))

def StoredAnswer.bytes (a : StoredAnswer) : List Byte := frameBytes a.seq a.type a.answer.payload

/-! ### The command packet (R192) -/

/-- The node address bits of the address byte (R87, R192). -/
def Target.code : Target → Byte
  | .broadcast => 0
  | .node n => nodeByte n
  | .survey => 31

/-- Address in bits 4..0, fetch toggle in bit 5, repeat flag in bit 6, bit 7 sent as 0 (R192). -/
def Command.addressByte (c : Command) : Byte :=
  c.target.code ||| (if c.toggle then 0x20 else 0) ||| (if c.repeatFlag then 0x40 else 0)

/-- What the segment CRC of a command covers (R194). -/
def Command.covered (c : Command) : List Byte :=
  [c.addressByte, c.kind.code] ++ halfBytes c.regAddr ++ [byte c.length] ++ c.data

/-- The command packet on the pair (R192). -/
def Command.packet (c : Command) : List Byte := 0xC3 :: c.covered ++ halfBytes (segmentCrc c.covered)

end Sys2Proof.Machine
end

