-- ==== Sys2Proof/Machine/Operands.lean ====
section
/-!
DEFINITION. The dispatcher's second validation step (R168): the request payloads of R189, read into operands. none is
BAD_FIELD. And the parameter ids and ranges of R181.
-/

namespace Sys2Proof.Machine

/-- A node field, 1..30 (R189). -/
def nodeField (b : Byte) : Option NodeId :=
  if h : 1 ≤ b.toNat ∧ b.toNat ≤ 30 then some ⟨b.toNat - 1, by omega⟩ else none

/-- A NOTIFY, postable or clear-absence byte: 00h or 01h (R189). -/
def flagField (b : Byte) : Option Bool :=
  if b = 0 then some false else if b = 1 then some true else none

/-- A slot field, 0..7 (R189). -/
def slotField (b : Byte) : Option SlotId := if h : b.toNat < 8 then some ⟨b.toNat, h⟩ else none

/-- A packet size field: 8, 16 or 32 (R118, R189). -/
def sizeField (b : Byte) : Option PacketSize :=
  if b = 8 then some .p8 else if b = 16 then some .p16 else if b = 32 then some .p32 else none

/-- A count or data length of 1..most whose last address does not pass 65,535 (R168, R189). -/
def accessOk (addr : Half) (n most : Nat) : Bool :=
  decide (1 ≤ n) && decide (n ≤ most) && decide (addr.toNat + n ≤ 65536)

/-- POST_WRITE: node, register address, data 1..64 (R189). -/
def postWriteOperands : List Byte → Option (NodeId × Half × List Byte)
  | n :: hi :: lo :: data =>
    match nodeField n with
    | some node => if accessOk (half hi lo) data.length 64 then some (node, half hi lo, data) else none
    | none => none
  | _ => none

/-- BROADCAST_WRITE: register address, data 1..32 (R189). -/
def broadcastOperands : List Byte → Option (Half × List Byte)
  | hi :: lo :: data => if accessOk (half hi lo) data.length 32 then some (half hi lo, data) else none
  | _ => none

/-- CONFIRM_WRITE: node, NOTIFY, register address, data 1..32 (R189). -/
def confirmWriteOperands : List Byte → Option (DelayedReq × Bool)
  | n :: f :: hi :: lo :: data =>
    match nodeField n, flagField f with
    | some node, some notify =>
      if accessOk (half hi lo) data.length 32 then some (.confirmWrite node (half hi lo) data, notify) else none
    | _, _ => none
  | _ => none

/-- READ_REGS: node, NOTIFY, register address, count 1..32 (R189). -/
def readRegsOperands : List Byte → Option (DelayedReq × Bool)
  | [n, f, hi, lo, c] =>
    match nodeField n, flagField f with
    | some node, some notify =>
      if accessOk (half hi lo) c.toNat 32 then some (.readRegs node (half hi lo) c.toNat, notify) else none
    | _, _ => none
  | _ => none

/-- READ_BLOCK: node, NOTIFY, register address, count 1..256 (R189). -/
def readBlockOperands : List Byte → Option (DelayedReq × Bool)
  | [n, f, hi, lo, chi, clo] =>
    match nodeField n, flagField f with
    | some node, some notify =>
      if accessOk (half hi lo) (half chi clo).toNat 256 then
        some (.readBlock node (half hi lo) (half chi clo).toNat, notify)
      else none
    | _, _ => none
  | _ => none

/-- PROBE_NODE: node, NOTIFY (R189). -/
def probeNodeOperands : List Byte → Option (DelayedReq × Bool)
  | [n, f] =>
    match nodeField n, flagField f with
    | some node, some notify => some (.probeNode node, notify)
    | _, _ => none
  | _ => none

/-- BARRIER: NOTIFY (R189). -/
def barrierOperands : List Byte → Option (DelayedReq × Bool)
  | [f] =>
    match flagField f with
    | some notify => some (.barrier, notify)
    | none => none
  | _ => none

/-- CANCEL_SLOT: slot (R189). -/
def cancelOperands : List Byte → Option SlotId
  | [b] => slotField b
  | _ => none

/-- NOTICE_ACK: notice number, every 16-bit value (R152, R189). -/
def ackOperands : List Byte → Option Half
  | [hi, lo] => some (half hi lo)
  | _ => none

/-- SET_NODE: node, postable, packet size, clear-absence (R118, R189). -/
def setNodeOperands : List Byte → Option (NodeId × Bool × PacketSize × Bool)
  | [n, p, z, c] =>
    match nodeField n, flagField p, sizeField z, flagField c with
    | some node, some post, some size, some clr => some (node, post, size, clr)
    | _, _, _, _ => none
  | _ => none

/-- GET_NODE: node (R120, R189). -/
def getNodeOperands : List Byte → Option NodeId
  | [n] => nodeField n
  | _ => none

/-- SET_PARAM: id 1..255, value (R182, R189). -/
def setParamOperands : List Byte → Option (Byte × Half)
  | [i, hi, lo] => if i = 0 then none else some (i, half hi lo)
  | _ => none

/-- GET_PARAM: id 1..255 (R183, R189). -/
def getParamOperands : List Byte → Option Byte
  | [i] => if i = 0 then none else some i
  | _ => none

/-- The requests that carry no payload (R176, R179, R185, R186). -/
def noOperands : List Byte → Option Unit
  | [] => some ()
  | _ => none

/-! ### Parameters (R181) -/

/-- The parameter an id names; 14 to 255 name none (R182). -/
def paramOf (b : Byte) : Option ParamId :=
  match b.toNat with
  | 1 => some .attemptLimit
  | 2 => some .responseWindow
  | 3 => some .retryGap
  | 4 => some .discardTime
  | 5 => some .noticeWindow
  | 6 => some .resendTime
  | 7 => some .delayedShare
  | 8 => some .collectShare
  | 9 => some .silenceLimit
  | 10 => some .segBitRate
  | 11 => some .segResetHold
  | 12 => some .segSettle
  | 13 => some .surveyHoldoff
  | _ => none

/-- The range of a parameter (R181). -/
def ParamId.allows (p : ParamId) (v : Nat) : Bool :=
  match p with
  | .attemptLimit => decide (1 ≤ v ∧ v ≤ 4095)
  | .responseWindow => decide (16 ≤ v ∧ v ≤ 1023)
  | .retryGap => decide (32 ≤ v ∧ v ≤ 65535)
  | .discardTime => decide (v = 0 ∨ 100 ≤ v ∧ v ≤ 60000)
  | .noticeWindow => decide (1 ≤ v ∧ v ≤ 8)
  | .resendTime => decide (10 ≤ v ∧ v ≤ 10000)
  | .delayedShare => decide (1 ≤ v ∧ v ≤ 32)
  | .collectShare => decide (1 ≤ v ∧ v ≤ 32)
  | .silenceLimit => decide (1 ≤ v ∧ v ≤ 15)
  | .segBitRate => decide (v ≤ 4)
  | .segResetHold => decide (1 ≤ v ∧ v ≤ 1000)
  | .segSettle => decide (v ≤ 5000)
  | .surveyHoldoff => decide (1 ≤ v ∧ v ≤ 1000)

def Params.get (p : Params) : ParamId → Nat
  | .attemptLimit => p.attemptLimit
  | .responseWindow => p.responseWindow
  | .retryGap => p.retryGap
  | .discardTime => p.discardTime
  | .noticeWindow => p.noticeWindow
  | .resendTime => p.resendTime
  | .delayedShare => p.delayedShare
  | .collectShare => p.collectShare
  | .silenceLimit => p.silenceLimit
  | .segBitRate => p.segBitRate
  | .segResetHold => p.segResetHold
  | .segSettle => p.segSettle
  | .surveyHoldoff => p.surveyHoldoff

def Params.set (p : Params) (v : Nat) : ParamId → Params
  | .attemptLimit => { p with attemptLimit := v }
  | .responseWindow => { p with responseWindow := v }
  | .retryGap => { p with retryGap := v }
  | .discardTime => { p with discardTime := v }
  | .noticeWindow => { p with noticeWindow := v }
  | .resendTime => { p with resendTime := v }
  | .delayedShare => { p with delayedShare := v }
  | .collectShare => { p with collectShare := v }
  | .silenceLimit => { p with silenceLimit := v }
  | .segBitRate => { p with segBitRate := v }
  | .segResetHold => { p with segResetHold := v }
  | .segSettle => { p with segSettle := v }
  | .surveyHoldoff => { p with surveyHoldoff := v }

end Sys2Proof.Machine
end

