-- ==== Sys2Proof/Machine/Ops.lean ====
section
/-!
DEFINITION. The shared operations over the blocks' state: handing a notice over (R145), filling, completing and freeing
a slot (R26, R28, R41), a posted write leaving the queue (R11, R17, R31), and the ABSENT head's discard (R16). Each is one
record update of the state, so that what it leaves alone is plain.
-/

namespace Sys2Proof.Machine

/-- v plus n, saturating (R18, R111, R146, R150). -/
def satAdd (v n most : Nat) : Nat := min (v + n) most

/-! ### Named updates -/

def State.setNode (s : State) (n : NodeId) (r : NodeRecord) : State := { s with nodes := s.nodes.set n r }

def State.setSlot (s : State) (i : SlotId) (sl : Option Slot) : State :=
  { s with drt := { s.drt with slots := s.drt.slots.set i sl } }

/-- Apply f to the record of every slot that is not FREE. -/
def Drt.mapSlots (d : Drt) (f : Slot → Slot) : Drt := { d with slots := d.slots.map (Option.map f) }

/-! ### Notice Block (R145, R146, R158) -/

/-- A FAULT is handed over: entered at the tail with the lost-fault count, or counted as lost (R145, R146). -/
def NoticeBlock.enterFault (b : NoticeBlock) (d : FaultDetail) : NoticeBlock :=
  if b.hasRoom then
    { b with queue := b.queue ++ [{ number := b.next, payload := .fault b.lostFaults d, state := .unsent, sendCount := 0 }]
             next := b.next + 1
             lostFaults := 0 }
  else { b with lostFaults := satAdd b.lostFaults 1 Config.byteMax }

/-- A REPORT is entered at the tail; the caller has found room (R133, R145, R148). -/
def NoticeBlock.enterReport (b : NoticeBlock) (n : NodeId) (code : Byte) (data : List Byte) : NoticeBlock :=
  { b with queue := b.queue ++ [{ number := b.next, payload := .report n code data, state := .unsent, sendCount := 0 }]
           next := b.next + 1 }

/-- A ready hint is added to the Ready List (R43, R158), which is kept ascending (notes/assumptions/18.md). -/
def NoticeBlock.addHint (b : NoticeBlock) (i : SlotId) : NoticeBlock :=
  { b with ready := allSlots.filter fun j => j == i || b.ready.contains j }

/-- A slot's hint is removed from the Ready List (R43, R158, R159). -/
def NoticeBlock.removeHint (b : NoticeBlock) (i : SlotId) : NoticeBlock :=
  { b with ready := b.ready.filter (· != i) }

/-- Every SENT entry becomes UNSENT and the resend deadline none (R155, R156). -/
def NoticeBlock.rewind (b : NoticeBlock) : NoticeBlock :=
  { b with queue := b.queue.map fun e => { e with state := .unsent }, resend := none }

/-- The arbiter takes the notice on offer: the first UNSENT entry becomes SENT with its send count raised, and the resend
deadline starts if none runs (R150). -/
def Notice.taken (e : Notice) : Notice := { e with state := .sent, sendCount := satAdd e.sendCount 1 Config.byteMax }

def takeFirstUnsent : List Notice → List Notice
  | [] => []
  | e :: rest => if e.state = .unsent then e.taken :: rest else e :: takeFirstUnsent rest

def NoticeBlock.takeNotice (b : NoticeBlock) (resendTime : Nat) : NoticeBlock :=
  { b with queue := takeFirstUnsent b.queue
           resend := match b.resend with
             | some t => some t
             | none => some resendTime }

/-- The first r entries leave by acknowledgement; the deadline restarts if SENT entries remain (R153). -/
def NoticeBlock.removeFirst (b : NoticeBlock) (r resendTime : Nat) : NoticeBlock :=
  { b with queue := b.queue.drop r
           resend := if (b.queue.drop r).any (·.state == .sent) then some resendTime else none }

/-- Stamps naming one of these notice numbers fall to none (R68). -/
def Slot.forgetNotices (numbers : List Half) (sl : Slot) : Slot :=
  match sl.dataStamp with
  | .held n => if numbers.contains n then { sl with dataStamp := .clear } else sl
  | _ => sl

/-! ### Delayed Request Table (R22 to R46) -/

/-- The record of a slot as it is filled (R22, R49). -/
def Slot.filled (req : DelayedReq) (notify : Bool) (stamp : Option Half) : Slot :=
  { req := req, notify := notify, state := .waiting, postingStamp := stamp, attempts := 0, repeatPending := false,
    gap := none, bytesDelivered := 0, bytesReceived := 0, data := [], fetchCursor := 0, deliveryCursor := 0,
    lossCount := 0, result := none, dataStamp := .absent, discard := none }

/-- A new request fills FREE slot i, which joins the list at its tail (R26). -/
def State.fillSlot (s : State) (i : SlotId) (req : DelayedReq) (notify : Bool) : State :=
  { s with drt := { slots := s.drt.slots.set i (some (Slot.filled req notify s.pwq.newest)), order := s.drt.order ++ [i] } }

/-- Slot i becomes FREE: it leaves the list, and its hint the Ready List (R21, R28, R42, R44, R45). -/
def State.freeSlot (s : State) (i : SlotId) : State :=
  { s with drt := { slots := s.drt.slots.set i none, order := s.drt.order.filter (· != i) }
           notices := s.notices.removeHint i }

/-- The record of a slot as it completes (R41): DISCARD_TIME is read now, the data notice stamp names the newest entry. -/
def Slot.completed (sl : Slot) (r : ResultStatus) (stamp : NoticeStamp) (discardTime : Nat) : Slot :=
  { sl with state := .complete, result := some r, gap := none, dataStamp := stamp,
            discard := if discardTime = 0 then none else some discardTime }

/-- Slot i, whose record is now sl, completes with status r (R41, R43, R66). -/
def State.completeWith (s : State) (i : SlotId) (sl : Slot) (r : ResultStatus) : State :=
  { s with drt := { slots := s.drt.slots.set i (some (sl.completed r s.notices.newest s.params.discardTime))
                    order := s.drt.order.filter (· != i) }
           notices := if sl.notify then s.notices.addHint i else s.notices
           counters := { s.counters with delayedCompleted := s.counters.delayedCompleted + 1 } }

/-- Slot i completes with its record as it stands (R41). -/
def State.completeSlot (s : State) (i : SlotId) (r : ResultStatus) : State :=
  match s.slot i with
  | some sl => s.completeWith i sl r
  | none => s

/-- The BARRIER in slot i completes OK: the posted-loss counter is read into the result and set to 0 (R37). -/
def State.completeBarrier (s : State) (i : SlotId) : State :=
  match s.slot i with
  | some sl =>
    { (s.completeWith i { sl with lossCount := s.pwq.lossCount } .ok) with pwq := { s.pwq with lossCount := 0 } }
  | none => s

/-- Every WAITING BARRIER whose stamp is none completes (R37). -/
def State.completeBarriers (s : State) : State :=
  allSlots.foldl (fun t i => if t.clearBarrier i then t.completeBarrier i else t) s

/-- The posting stamps that hold this entry number become none (R31). -/
def Slot.clearStamp (number : Half) (sl : Slot) : Slot :=
  if sl.postingStamp = some number then { sl with postingStamp := none } else sl

/-! ### Posted Write Queue (R8, R11, R16, R17) -/

/-- An entry becomes head: READY, repeat pending clear (R8, R10). -/
def headedBy : List Entry → Option HeadedQueue
  | [] => none
  | e :: rest => some { head := e, headState := .ready, repeatPending := false, behind := rest }

/-- An entry is appended at the tail (R1, R7). -/
def Pwq.append (q : Pwq) (target : Option NodeId) (addr : Half) (data : List Byte) (seq : Byte) : Pwq :=
  let e : Entry :=
    { number := q.nextNumber, target := target, addr := addr, data := data, delivered := 0, attempts := 0,
      originSeq := seq }
  { q with queue := match q.queue with
             | none => headedBy [e]
             | some h => some { h with behind := h.behind ++ [e] }
           nextNumber := q.nextNumber + 1 }

/-- The head leaves the queue; the stamps naming it fall to none, and a BARRIER so released completes (R11, R31, R37). -/
def State.popHead (s : State) (q : HeadedQueue) : State :=
  State.completeBarriers
    { s with pwq := { s.pwq with queue := headedBy q.behind }
             drt := s.drt.mapSlots (Slot.clearStamp q.head.number) }

/-- The WRITE_LOST details of one entry (R17, R147). -/
def Entry.lostDetail (e : Entry) (reason : LossReason) : FaultDetail :=
  .writeLost e.number e.originSeq e.target e.addr e.data.length e.delivered reason

/-- The head is discarded: the counters rise, the fault is handed over, then the entry leaves (R17). -/
def State.discardHead (s : State) (q : HeadedQueue) (reason : LossReason) : State :=
  State.popHead
    { s with pwq := { s.pwq with lossCount := satAdd s.pwq.lossCount 1 Config.lossMax }
             counters := { s.counters with postedLost := s.counters.postedLost + 1 }
             notices := s.notices.enterFault (q.head.lostDetail reason) } q

/-- A READY head whose node is ABSENT is discarded, and so is the next that then heads the queue (R16). fuel bounds the
number of discards by the number of entries. -/
def State.dropAbsentHeads : Nat → State → State
  | 0, s => s
  | fuel + 1, s =>
    match s.pwq.queue with
    | none => s
    | some q =>
      if q.headState = .ready ∧ s.headAbsent q.head = true then
        State.dropAbsentHeads fuel (s.discardHead q .nodeAbsent)
      else s

/-- The check of R16, made when an entry enters READY and when its node becomes ABSENT while it is in READY. -/
def State.checkHead (s : State) : State := State.dropAbsentHeads s.pwq.entries.length s

end Sys2Proof.Machine
end

