-- ==== Sys2Proof/Machine/Scheduler.lean ====
section
/-!
DEFINITION. The Segment Scheduler (R72 to R83): the candidates at a decision, the grant rule, the share counters, and
the commands the grantees build (R9, R33 to R36, R51, R80, R129, R132).
-/

namespace Sys2Proof.Machine

/-! ### Cutting a packet (R9, R34, R35, R51, R117) -/

/-- The length of a packet at this start: the bytes remaining, or the distance to the next multiple of the packet size,
whichever is smaller (R9). -/
def cutLength (size start remaining : Nat) : Nat := min remaining (size - start % size)

/-- The packet size a posted entry is cut at: its node's, or 32 for a broadcast (R9, R117). -/
def State.entrySize (s : State) (e : Entry) : Nat :=
  match e.target with
  | some n => (s.node n).packetSize.bytes
  | none => Config.broadcastPacket

/-- The WR the head sends next; a broadcast goes out without the repeat flag (R9, R10, R88). -/
def State.headCommand (s : State) (q : HeadedQueue) : Command :=
  let start := q.head.addr.toNat + q.head.delivered
  let len := cutLength (s.entrySize q.head) start (q.head.data.length - q.head.delivered)
  { kind := .wr
    target := match q.head.target with
      | some n => .node n
      | none => .broadcast
    regAddr := BitVec.ofNat 16 start
    length := len
    data := (q.head.data.drop q.head.delivered).take len
    repeatFlag := q.repeatPending && q.head.target.isSome
    toggle := false }

/-- The command a slot sends next (R34, R35, R36, R51). A BARRIER is never offered (R37); it is given the PROBE's form
so that the function is total. -/
def State.slotCommand (s : State) (sl : Slot) : Command :=
  match sl.req with
  | .confirmWrite n a d =>
    let start := a.toNat + sl.bytesDelivered
    let len := cutLength (s.node n).packetSize.bytes start (d.length - sl.bytesDelivered)
    { kind := .wr, target := .node n, regAddr := BitVec.ofNat 16 start, length := len,
      data := (d.drop sl.bytesDelivered).take len, repeatFlag := sl.repeatPending, toggle := false }
  | .readRegs n a c =>
    let start := a.toNat + sl.bytesReceived
    { kind := .rd, target := .node n, regAddr := BitVec.ofNat 16 start,
      length := cutLength (s.node n).packetSize.bytes start (c - sl.bytesReceived),
      data := [], repeatFlag := sl.repeatPending, toggle := false }
  | .readBlock n a c =>
    let start := a.toNat + sl.fetchCursor
    { kind := .rd, target := .node n, regAddr := BitVec.ofNat 16 start,
      length := cutLength (s.node n).packetSize.bytes start (c - sl.fetchCursor),
      data := [], repeatFlag := sl.repeatPending, toggle := false }
  | .probeNode n =>
    { kind := .probe, target := .node n, regAddr := 0, length := 0, data := [], repeatFlag := sl.repeatPending,
      toggle := false }
  | .barrier =>
    { kind := .probe, target := .broadcast, regAddr := 0, length := 0, data := [], repeatFlag := false, toggle := false }

/-- The SURVEY command (R87, R129). -/
def surveyCommand : Command :=
  { kind := .survey, target := .survey, regAddr := 0, length := 0, data := [], repeatFlag := false, toggle := false }

/-- The FETCH command to a member: its repeat mark and its node's fetch toggle (R87, R132). -/
def State.fetchCommand (s : State) (n : NodeId) : Command :=
  { kind := .fetch, target := .node n, regAddr := 0, length := 0, data := [], repeatFlag := s.attn.mark n,
    toggle := (s.node n).fetchToggle }

/-! ### The grant -/

/-- The engine starts a granted transaction: TURNAROUND while the turnaround runs, otherwise SENDING, which puts the
command packet on the pair and counts it as sent (R85, R86, R89, R192). -/
def State.startTransaction (s : State) (r : Requester) (c : Command) : State :=
  let waits := s.engine.turnaround.isSome
  let record : Transaction :=
    { requester := r, cmd := c, phase := if waits then .turnaround else .sending,
      driven := if waits then none else some c.packet, windowDeadline := none, received := [] }
  { s with engine := { s.engine with txn := some record }
           counters := if waits then s.counters
             else { s.counters with transactionsSent := s.counters.transactionsSent + 1 } }

/-- The grant to P: the head is cut and goes IN_FLIGHT (R9, R80). -/
def State.grantHead (s : State) (q : HeadedQueue) : State :=
  { s with pwq := { s.pwq with queue := some { q with headState := .inFlight } } }.startTransaction .p (s.headCommand q)

/-- The grant to D: the slot becomes ACTIVE and leaves the list (R33, R80). -/
def State.grantSlot (s : State) (i : SlotId) (sl : Slot) : State :=
  { s with drt := { slots := s.drt.slots.set i (some { sl with state := .active })
                    order := s.drt.order.filter (· != i) } }.startTransaction (.d i) (s.slotCommand sl)

/-- The grant to C as a FETCH: the rotation pointer moves to the node (R127, R132). -/
def State.grantFetch (s : State) (n : NodeId) : State :=
  { s with attn := { s.attn with pointer := some n } }.startTransaction .c (s.fetchCommand n)

/-- The grant to C as a SURVEY (R129). -/
def State.grantSurvey (s : State) : State := s.startTransaction .c surveyCommand

/-! ### The decision -/

/-- Members whose node is ABSENT leave the attention set before the offer is read (R126). -/
def State.removeAbsentMembers (s : State) : State :=
  { s with attn := { s.attn with members := s.attn.members.filter fun m => !s.absent m.node } }

/-- The DRT looks for its candidate: a slot found with an ABSENT node completes NODE_ABSENT, and the next is looked at
(R32, R75). -/
def State.offerSlot : List SlotId → State → State × Option SlotId
  | [], s => (s, none)
  | i :: rest, s => if s.offerAbsent i then State.offerSlot rest (s.completeSlot i .nodeAbsent) else (s, some i)

/-- Whom the scheduler grants. -/
inductive Choice where
  | p
  | d
  | c
  deriving DecidableEq, Repr

/-- The grant rule of R78, over the presence of the candidates. -/
def chooseGrant (sched : Scheduler) (params : Params) (p d c : Bool) : Option Choice :=
  if c && decide (params.collectShare ≤ sched.collectShare) then some .c
  else if d && decide (params.delayedShare ≤ sched.delayedShare) then some .d
  else if p then some .p
  else if d then some .d
  else if c then some .c
  else none

/-- The share counters after a grant (R79). -/
def Scheduler.afterGrant (sched : Scheduler) (g : Choice) (d c : Bool) : Scheduler :=
  match g with
  | .p => { collectShare := if c then sched.collectShare + 1 else 0
            delayedShare := if d then sched.delayedShare + 1 else 0 }
  | .d => { collectShare := if c then sched.collectShare + 1 else 0, delayedShare := 0 }
  | .c => { collectShare := 0, delayedShare := if d then sched.delayedShare else 0 }

/-- Hand the engine to the chosen candidate (R80). -/
def State.grant (s : State) (g : Choice) (d : Option SlotId) (c : Option CollectOffer) : State :=
  match g with
  | .p =>
    match s.pwq.queue with
    | some q => s.grantHead q
    | none => s
  | .d =>
    match d with
    | some i =>
      match s.slot i with
      | some sl => s.grantSlot i sl
      | none => s
    | none => s
  | .c =>
    match c with
    | some (.fetch n) => s.grantFetch n
    | some .survey => s.grantSurvey
    | none => s

/-- The choice among the candidates present in s, d being the DRT's (R76, R78, R79, R80). -/
def State.grantNext (s : State) (d : Option SlotId) : State :=
  match chooseGrant s.sched s.params s.candidateP d.isSome s.candidateC.isSome with
  | none => s
  | some g =>
    { s with sched := s.sched.afterGrant g d.isSome s.candidateC.isSome }.grant g d s.candidateC

/-- One decision, made only while the segment is RUNNING and the engine idle (R73, R77). -/
def State.schedule (s : State) : State :=
  if s.seg.state = .running ∧ s.engine.txn = none then
    let t := s.removeAbsentMembers
    let r := State.offerSlot t.offerList t
    r.1.grantNext r.2
  else s

end Sys2Proof.Machine
end

