-- ==== Sys2Proof/Machine/Response.lean ====
section
/-!
DEFINITION. What comes back on the pair: where a response ends, the faults found in it, and its classification as an
outcome (R91 to R94, R193, R194); and the survey train (R98, R99).
-/

namespace Sys2Proof.Machine

/-- The response kinds of R195. -/
inductive ResponseKind where
  | ack | data | wait | refuse | report | empty | ident
  deriving DecidableEq, Repr

/-- The classified result of a transaction to a node (R96). -/
inductive SegOutcome where
  | ack
  | data (bytes : List Byte)
  | wait
  | refuse (reason : Byte)
  | report (more : Bool) (code : Byte) (data : List Byte)
  | empty
  | ident (bytes : List Byte)
  | noResponse
  | garbled
  deriving DecidableEq, Repr

/-- The faults of R92, R93 and R94. -/
inductive RxFault where
  | framing | sync | kind | notPermitted | length | refuseReason | reportCount | crc | overlong
  deriving DecidableEq, Repr

/-- The response kind a character names (R195). -/
def responseKind (b : Byte) : Option ResponseKind :=
  match b.toNat with
  | 0x81 => some .ack
  | 0x82 => some .data
  | 0x83 => some .wait
  | 0x84 => some .refuse
  | 0x85 => some .report
  | 0x86 => some .empty
  | 0x87 => some .ident
  | _ => none

/-- The responses permitted for a command (R94). -/
def permitted : CommandKind → ResponseKind → Bool
  | .wr, k => k == .ack || k == .wait || k == .refuse
  | .rd, k => k == .data || k == .wait || k == .refuse
  | .fetch, k => k == .report || k == .empty || k == .wait || k == .refuse
  | .probe, k => k == .ident || k == .wait
  | .survey, _ => false

/-- The length is in the range of the kind; a DATA also has the length requested (R93, R94). -/
def lengthOk (cmd : Command) (k : ResponseKind) (len : Nat) : Bool :=
  match k with
  | .ack => len == 0
  | .wait => len == 0
  | .empty => len == 0
  | .data => decide (1 ≤ len) && decide (len ≤ 32) && len == cmd.length
  | .refuse => len == 1
  | .report => decide (2 ≤ len) && decide (len ≤ 18)
  | .ident => len == 4

/-- The kind and length characters as taken: a kind and a length that can be trusted, or the fault found on them
(R91, R93, R94). A character with a framing fault is a faulty character (R92; notes/assumptions/14.md). -/
def declared (cmd : Command) (kindChar lengthChar : RxChar) : Except RxFault (ResponseKind × Nat) :=
  if !kindChar.stopGood || !lengthChar.stopGood then .error .framing
  else
    match responseKind kindChar.value with
    | none => .error .kind
    | some k =>
      if !permitted cmd.kind k then .error .notPermitted
      else if lengthOk cmd k lengthChar.value.toNat then .ok (k, lengthChar.value.toNat)
      else .error .length

/-- The number of characters after which the response ends: its declared end, or the bound of 37 (R91). Until the length
character has been taken the end is not known. -/
def responseLength (cmd : Command) : List RxChar → Nat
  | _ :: k :: l :: _ =>
    match declared cmd k l with
    | .ok (_, len) => 5 + len
    | .error _ => Config.responseBound
  | _ => Config.responseBound

/-- The reason of a REFUSE lies in 1..15 (R93). -/
def reasonOk (b : Byte) : Bool := decide (1 ≤ b.toNat) && decide (b.toNat ≤ 15)

/-- The fault of the body, if any, by kind (R93, R193). -/
def bodyFault (k : ResponseKind) (body : List Byte) : Option RxFault :=
  match k, body with
  | .refuse, r :: _ => if reasonOk r then none else some .refuseReason
  | .report, head :: _ =>
    if (head &&& 0x1F).toNat = body.length - 2 then none else some .reportCount
  | _, _ => none

/-- The first fault of a response that has reached its end (R92, R93, R94). -/
def firstFault (cmd : Command) (chars : List RxChar) : Option RxFault :=
  match chars with
  | s :: k :: l :: rest =>
    if !s.stopGood then some .framing
    else if s.value ≠ 0x3C then some .sync
    else
      match declared cmd k l with
      | .error f => some f
      | .ok (kind, len) =>
        if !rest.all (·.stopGood) then some .framing
        else
          match bodyFault kind ((rest.take len).map (·.value)) with
          | some f => some f
          | none =>
            if halfBytes (segmentCrc ([k.value, l.value] ++ (rest.take len).map (·.value)))
                = ((rest.drop len).take 2).map (·.value) then none
            else some .crc
  | _ => some .overlong

/-- The outcome a response kind with its body stands for (R96, R193). -/
def outcomeOf (k : ResponseKind) (body : List Byte) : SegOutcome :=
  match k, body with
  | .ack, _ => .ack
  | .wait, _ => .wait
  | .empty, _ => .empty
  | .data, b => .data b
  | .ident, b => .ident b
  | .refuse, r :: _ => .refuse r
  | .report, head :: code :: data => .report (head.getLsbD 7) code data
  | _, _ => .garbled

/-- The classification of a response that has reached its end (R91). -/
def classify (cmd : Command) (chars : List RxChar) : SegOutcome :=
  match firstFault cmd chars with
  | some _ => .garbled
  | none =>
    match chars with
    | _ :: k :: l :: rest =>
      match declared cmd k l with
      | .ok (kind, len) => outcomeOf kind ((rest.take len).map (·.value))
      | .error _ => .garbled
    | _ => .garbled

/-! ### The survey train (R98, R99) -/

/-- What a slot of the train held (R99). -/
inductive TrainSlot where
  | noMark
  | mark
  | malformed
  deriving DecidableEq, Repr

/-- The start bits whose leading edge falls in the slot of node n, address n + 1: bit times 12 × (n + 1) to
12 × (n + 1) + 12 (R98). Those before slot 1 fall in no slot. -/
def startsIn (starts : List TrainStart) (n : NodeId) : List TrainStart :=
  starts.filter fun a => a.time / Config.surveySlot == n.val + 1

/-- The classification of one slot (R99). -/
def trainSlot (starts : List TrainStart) (n : NodeId) : TrainSlot :=
  match startsIn starts n with
  | [] => .noMark
  | [a] => if a.char.value = 0xF0 ∧ a.char.stopGood = true then .mark else .malformed
  | _ :: _ :: _ => .malformed

/-- The nodes whose slots were marked, well formed or malformed, in ascending order: the outcome of the SURVEY (R99). -/
def markedNodes (starts : List TrainStart) : List NodeId := allNodes.filter fun n => trainSlot starts n != .noMark

end Sys2Proof.Machine
end

