-- ==== Sys2Proof/Machine/Engine.lean ====
section
/-!
DEFINITION. What the Node Table, the Posted Write Queue, the Delayed Request Table and the Attention Unit do with an
outcome, and its delivery in the order of R81 (R11 to R16, R36 to R40, R45, R52, R109 to R114, R130 to R136).
-/

namespace Sys2Proof.Machine

/-! ### Node Table -/

/-- A response or a survey mark: PRESENT with silence 0 (R110, R114). -/
def NodeRecord.heard (r : NodeRecord) : NodeRecord := { r with presence := .present, silence := 0 }

/-- The record after an outcome of a transaction to its node (R110 to R113). -/
def NodeRecord.take (r : NodeRecord) (kind : CommandKind) (limit : Nat) (o : SegOutcome) : NodeRecord :=
  match o with
  | .garbled => r
  | .noResponse =>
    { r with silence := satAdd r.silence 1 Config.silenceMax
             presence := if kind = .probe ∨ limit ≤ satAdd r.silence 1 Config.silenceMax then .absent else r.presence }
  | .refuse reason => { r.heard with refuseReason := some reason }
  | .ident bytes => { r.heard with identity := some bytes }
  | .ack => r.heard
  | .data _ => r.heard
  | .wait => r.heard
  | .report _ _ _ => r.heard
  | .empty => r.heard

/-- The Node Table takes the outcome of a command (R109). -/
def State.nodeOutcome (s : State) (cmd : Command) (o : SegOutcome) : State :=
  match cmd.target with
  | .node n => s.setNode n ((s.node n).take cmd.kind s.params.silenceLimit o)
  | .broadcast => s
  | .survey => s

/-! ### Posted Write Queue -/

/-- The entry has been delivered whole (R11). -/
def State.headDelivered (s : State) (q : HeadedQueue) : State :=
  State.checkHead (State.popHead { s with counters := { s.counters with postedDelivered := s.counters.postedDelivered + 1 } } q)

/-- On ACK, or at a broadcast window's expiry: len bytes more are delivered (R11, R15). -/
def State.headAck (s : State) (q : HeadedQueue) (len : Nat) : State :=
  let e := { q.head with delivered := q.head.delivered + len, attempts := 0 }
  let q' : HeadedQueue := { q with head := e, headState := .ready, repeatPending := false }
  if e.delivered = e.data.length then s.headDelivered q'
  else State.checkHead { s with pwq := { s.pwq with queue := some q' } }

/-- A retry outcome: the attempts rise, and the head goes to GAP or is discarded (R10, R12). -/
def State.headRetry (s : State) (q : HeadedQueue) (mark : Bool) : State :=
  let e := { q.head with attempts := q.head.attempts + 1 }
  let q' : HeadedQueue := { q with head := e, headState := .gap s.params.retryGap, repeatPending := mark }
  if s.params.attemptLimit ≤ e.attempts then (s.discardHead q' .retryExhausted).checkHead
  else { s with pwq := { s.pwq with queue := some q' } }

/-- The PWQ takes the outcome of the head's transaction (R11 to R14). Kinds that R94 does not permit for a WR never reach
it; they would be taken as GARBLED. -/
def State.headOutcome (s : State) (cmd : Command) (o : SegOutcome) : State :=
  match s.pwq.queue with
  | none => s
  | some q =>
    match o with
    | .ack => s.headAck q cmd.length
    | .wait => s.headRetry q false
    | .refuse r => (s.discardHead q (.refused r)).checkHead
    | .noResponse => if s.headAbsent q.head then (s.discardHead q .nodeAbsent).checkHead else s.headRetry q true
    | .garbled => s.headRetry q true
    | .data _ => s.headRetry q true
    | .report _ _ _ => s.headRetry q true
    | .empty => s.headRetry q true
    | .ident _ => s.headRetry q true

/-! ### Delayed Request Table -/

/-- Slot i goes on with this record: COMPLETE with OK when done, else ACTIVE and idle between packets (R38, R52). -/
def State.slotAdvance (s : State) (i : SlotId) (sl : Slot) (done : Bool) : State :=
  if done then s.completeWith i sl .ok else s.setSlot i (some sl)

/-- A retry outcome of a slot (R33, R39, R53). The mark is set before ATTEMPT_LIMIT is read, so also by the NO_RESPONSE or
GARBLED that exhausts the limit: the model's choice (notes/assumptions/27.md). -/
def State.slotRetry (s : State) (i : SlotId) (sl : Slot) (mark : Bool) : State :=
  let sl' := { sl with attempts := sl.attempts + 1, repeatPending := mark }
  if s.params.attemptLimit ≤ sl'.attempts then s.completeWith i sl' .retryExhausted
  else
    { s with drt := { slots := s.drt.slots.set i (some { sl' with state := .waiting, gap := some s.params.retryGap })
                      order := s.drt.order ++ [i] } }

/-- NO_RESPONSE to a slot that is no PROBE_NODE: NODE_ABSENT when the node is now ABSENT, else a retry (R39, R40). -/
def State.slotSilence (s : State) (i : SlotId) (sl : Slot) : State :=
  if s.reqAbsent sl.req then s.completeWith i sl .nodeAbsent else s.slotRetry i sl true

/-- The outcome of an ACTIVE slot's transaction (R36, R38 to R40, R52, R53). Kinds that R94 does not permit never reach
it; they would be taken as GARBLED. -/
def State.activeOutcome (s : State) (i : SlotId) (sl : Slot) (cmd : Command) (o : SegOutcome) : State :=
  match o with
  | .wait => s.slotRetry i sl false
  | .noResponse =>
    match sl.req with
    | .probeNode _ => s.completeWith i sl .nodeAbsent
    | _ => s.slotSilence i sl
  | .refuse r =>
    match sl.req with
    | .probeNode _ => s.slotRetry i sl true
    | _ => s.completeWith i sl (.refused r)
  | .ack =>
    match sl.req with
    | .confirmWrite _ _ d =>
      s.slotAdvance i { sl with bytesDelivered := sl.bytesDelivered + cmd.length, attempts := 0, repeatPending := false }
        (sl.bytesDelivered + cmd.length == d.length)
    | _ => s.slotRetry i sl true
  | .data bytes =>
    match sl.req with
    | .readRegs _ _ c =>
      s.slotAdvance i { sl with data := sl.data ++ bytes, bytesReceived := sl.bytesReceived + bytes.length, attempts := 0,
                                repeatPending := false }
        (sl.bytesReceived + bytes.length == c)
    | .readBlock _ _ c =>
      s.slotAdvance i { sl with data := sl.data ++ bytes, fetchCursor := sl.fetchCursor + bytes.length, attempts := 0,
                                repeatPending := false, dataStamp := s.notices.newest }
        (sl.fetchCursor + bytes.length == c)
    | _ => s.slotRetry i sl true
  | .ident bytes =>
    match sl.req with
    | .probeNode _ => s.completeWith i { sl with data := bytes } .ok
    | _ => s.slotRetry i sl true
  | .garbled => s.slotRetry i sl true
  | .report _ _ _ => s.slotRetry i sl true
  | .empty => s.slotRetry i sl true

/-- The DRT takes the outcome of slot i's transaction; an ORPHANED slot drops it and becomes FREE (R45). -/
def State.slotOutcome (s : State) (i : SlotId) (cmd : Command) (o : SegOutcome) : State :=
  match s.slot i with
  | none => s
  | some sl =>
    match sl.state with
    | .orphaned => s.freeSlot i
    | .active => s.activeOutcome i sl cmd o
    | .waiting => s
    | .complete => s

/-! ### Attention Unit -/

def Attention.remove (a : Attention) (n : NodeId) : Attention := { a with members := a.members.filter (·.node != n) }

def Attention.setMark (a : Attention) (n : NodeId) (mark : Bool) : Attention :=
  { a with members := a.members.map fun m => if m.node = n then { m with repeatMark := mark } else m }

/-- A REPORT is entered: the toggle flips, the mark is cleared, and the node stays only with the more-flag (R133). -/
def State.reportEntered (s : State) (n : NodeId) (more : Bool) (code : Byte) (data : List Byte) : State :=
  { (s.setNode n { s.node n with fetchToggle := !(s.node n).fetchToggle }) with
    notices := s.notices.enterReport n code data
    attn := if more then s.attn.setMark n false else s.attn.remove n }

/-- WAIT or GARBLED to a FETCH: the fetch eligible time is set, RETRY_GAP read now (R136). -/
def State.fetchRetry (s : State) (n : NodeId) (mark : Bool) : State :=
  { (s.setNode n { s.node n with fetchEligible := some s.params.retryGap }) with attn := s.attn.setMark n mark }

/-- The Attention Unit takes the outcome of a FETCH (R133 to R136). -/
def State.fetchOutcome (s : State) (n : NodeId) (o : SegOutcome) : State :=
  match o with
  | .report more code data =>
    if s.notices.hasRoom then s.reportEntered n more code data
    else { s with attn := s.attn.setMark n true }
  | .empty => { s with attn := s.attn.remove n }
  | .refuse _ => { s with attn := s.attn.remove n }
  | .noResponse => { s with attn := s.attn.remove n }
  | .wait => s.fetchRetry n false
  | .garbled => s.fetchRetry n true
  | .ack => s.fetchRetry n true
  | .data _ => s.fetchRetry n true
  | .ident _ => s.fetchRetry n true

/-- The Attention Unit takes the set of marked nodes (R130, R131). -/
def State.surveyOutcome (s : State) (marked : List NodeId) : State :=
  { s with attn := { s.attn with
      members := marked.map fun n => { node := n, repeatMark := false }
      holdoff := if marked.isEmpty then some s.params.surveyHoldoff else s.attn.holdoff } }

/-- The Node Table takes the marks (R114). -/
def State.surveyMarks (s : State) (marked : List NodeId) : State :=
  { s with nodes := Vector.ofFn fun n : NodeId => if marked.contains n then (s.node n).heard else s.node n }

/-! ### Delivery (R81) -/

/-- The grantee takes the outcome: the second thing of R81. -/
def State.granteeOutcome (s : State) (t : Transaction) (o : SegOutcome) : State :=
  match t.requester with
  | .p => s.headOutcome t.cmd o
  | .d i => s.slotOutcome i t.cmd o
  | .c =>
    match t.cmd.target with
    | .node n => s.fetchOutcome n o
    | .broadcast => s
    | .survey => s

/-- The grant is released, the record cleared, and the turnaround starts (R81, R85, R86). -/
def State.release (s : State) : State := { s with engine := { txn := none, turnaround := some Config.turnaround } }

/-- An outcome is delivered: the Node Table takes it, a READY head whose node it made ABSENT is discarded (R16), the
grantee takes it, the grant is released, and the scheduler decides (R81). -/
def State.deliver (s : State) (t : Transaction) (o : SegOutcome) : State :=
  ((((s.nodeOutcome t.cmd o).checkHead).granteeOutcome t o).release).schedule

end Sys2Proof.Machine
end

