-- ==== Sys2Proof/Machine/LinkOps.lean ====
section
/-!
DEFINITION. The host link's shared operations: the outbound arbiter (R169, R170), the receive framer (R161 to R165), and
the taking of a frame by the dispatcher with the Answer Replay Store (R166 to R168).
-/

namespace Sys2Proof.Machine

/-! ### The outbound arbiter -/

/-- The oldest place that is ANSWERED goes to SENDING; with the answer it held (R169, R170). -/
def sendFirstAnswer : List Place → Option (StoredAnswer × List Place)
  | [] => none
  | p :: rest =>
    match p.state with
    | .answered a => some (a, { p with state := .sending a } :: rest)
    | .waiting => (sendFirstAnswer rest).map fun r => (r.1, p :: r.2)
    | .sending _ => (sendFirstAnswer rest).map fun r => (r.1, p :: r.2)

/-- HELLO is taken: the frame is built (R170, R180). -/
def State.sendHello (s : State) : State :=
  { s with link := { s.link with
      tx := some { kind := .hello, bytes := frameBytes 0 0x83 (helloPayload s.link.resetCause s.link.lspd) } } }

/-- LINK_NAK is taken: the flag is cleared, the frame carries the newest placed sequence (R163, R170). -/
def State.sendNak (s : State) : State :=
  { s with link := { s.link with
      nakPending := false
      tx := some { kind := .linkNak, bytes := frameBytes 0 0x82 (nakPayload s.link.newestPlaced) } } }

/-- An answer is taken: its place goes to SENDING (R170). -/
def State.sendAnswer (s : State) (a : StoredAnswer) (places : List Place) : State :=
  { s with link := { s.link with places := places, tx := some { kind := .answer, bytes := a.bytes } } }

/-- The notice on offer is taken: it becomes SENT and the frame carries the send count just reached (R150, R170). -/
def State.sendNotice (s : State) (e : Notice) : State :=
  { s with notices := s.notices.takeNotice s.params.resendTime
           link := { s.link with
             tx := some { kind := .notice e.number, bytes := frameBytes 0 0x80 e.taken.framePayload } } }

/-- The hint of slot i is taken: it leaves the Ready List and the frame is built from the slot's record (R159, R170). -/
def State.sendHint (s : State) (i : SlotId) (sl : Slot) : State :=
  { s with notices := s.notices.removeHint i
           link := { s.link with tx := some { kind := .hint i, bytes := frameBytes 0 0x81 (hintPayload i sl) } } }

/-- The hint for the lowest slot number on the Ready List is taken, if there is one (R159). -/
def State.sendReadyHint (s : State) : State :=
  match s.notices.ready.head? with
  | none => s
  | some i =>
    match s.slot i with
    | some sl => s.sendHint i sl
    | none => s

/-- What the arbiter takes behind HELLO and LINK_NAK: an answer, a notice, a hint (R169). -/
def State.sendWaiting (s : State) : State :=
  match sendFirstAnswer s.link.places with
  | some r => s.sendAnswer r.1 r.2
  | none =>
    match s.notices.offer s.params.noticeWindow with
    | some e => s.sendNotice e
    | none => s.sendReadyHint

/-- The transmitter is idle and the part out of reset: the arbiter may decide (R169, R178). -/
def State.txFree (s : State) : Bool := s.link.tx.isNone && s.held.isNone

/-- The arbiter's decision: HELLO, LINK_NAK, answer, notice, hint, in this order (R169). -/
def State.arbitrate (s : State) : State :=
  if s.txFree then
    if s.link.helloOffered then s.sendHello
    else if s.link.nakPending then s.sendNak
    else s.sendWaiting
  else s

/-! ### The receive framer -/

/-- What the framer makes of one character (R161, R162, R164). -/
inductive Taken where
  /-- The framer goes on. -/
  | more (f : Framer)
  /-- The frame is bad. -/
  | bad
  /-- The frame is good: its bytes from sequence to the end of the payload. -/
  | good (body : List Byte)
  deriving DecidableEq, Repr

/-- One character in one framer state (R161). -/
def Framer.take (f : Framer) (b : Byte) : Taken :=
  match f with
  | .hunt => .more (if b = 0xA5 then .length [] else .hunt)
  | .length [] => .more (.length [b])
  | .length (hi :: _) =>
    if 2 ≤ (half hi b).toNat ∧ (half hi b).toNat ≤ 282 then .more (.body [hi, b] (half hi b).toNat [])
    else .bad
  | .body lengthBytes n got =>
    if n ≤ got.length + 1 then .more (.check (lengthBytes ++ got ++ [b]) (got ++ [b]) [])
    else .more (.body lengthBytes n (got ++ [b]))
  | .check covered content [] => .more (.check covered content [b])
  | .check covered content (hi :: _) => if half hi b = hostCrc covered then .good content else .bad

/-- A bad frame: discarded, counted, LINK_NAK pending, back to HUNT (R162, R163). -/
def State.badFrame (s : State) : State :=
  { s with counters := { s.counters with badFrames := s.counters.badFrames + 1 }
           link := { s.link with framer := .hunt, nakPending := true } }

/-- A good frame takes a free place (R164). -/
def State.placeFrame (s : State) (f : Frame) : State :=
  { s with link := { s.link with
      framer := .hunt
      newestPlaced := some f.seq
      places := s.link.places ++ [{ frame := f, state := .waiting }] } }

/-- A good frame finds all four places taken: it is discarded and a LINK_OVERRUN fault handed over (R165). -/
def State.overrun (s : State) (f : Frame) : State :=
  { s with counters := { s.counters with overruns := s.counters.overruns + 1 }
           link := { s.link with framer := .hunt }
           notices := s.notices.enterFault (.linkOverrun f.seq) }

/-- A frame has been found good (R164, R165). -/
def State.goodFrame (s : State) (f : Frame) : State :=
  if s.link.places.length < Config.framePlaces then s.placeFrame f else s.overrun f

/-- The framer takes one character; a verdict is followed by the arbiter's decision (R161, R169). A body shorter than
two bytes cannot come from the framer (R161: the length is at least 2); it is treated as bad. -/
def State.takeChar (s : State) (b : Byte) : State :=
  match s.link.framer.take b with
  | .more f => { s with link := { s.link with framer := f } }
  | .bad => s.badFrame.arbitrate
  | .good (seq :: type :: payload) => (s.goodFrame { seq := seq, type := type, payload := payload }).arbitrate
  | .good _ => s.badFrame.arbitrate

/-- The framer takes characters in the order they come (R161). -/
def State.takeChars (s : State) (chars : List Byte) : State := chars.foldl State.takeChar s

/-- The gap inside a frame exceeds 1 ms: the frame is bad; in HUNT no gap is measured (R161, R162). -/
def State.frameGap (s : State) : State := if s.link.framer = .hunt then s else s.badFrame.arbitrate

/-! ### The dispatcher -/

def Place.isWaiting (p : Place) : Bool := p.state == .waiting

def Place.isSending (p : Place) : Bool :=
  match p.state with
  | .sending _ => true
  | _ => false

/-- The frame of the oldest WAITING place (R166). -/
def Link.nextFrame (l : Link) : Option Frame := (l.places.find? Place.isWaiting).map (·.frame)

/-- The stored answer of this sequence (R166). -/
def Link.stored (l : Link) (seq : Byte) : Option StoredAnswer := l.store.find? fun a => a.seq == seq

/-- The oldest WAITING place goes to ANSWERED (R164, R166). -/
def answerFirst (a : StoredAnswer) : List Place → List Place
  | [] => []
  | p :: rest => if p.isWaiting then { p with state := .answered a } :: rest else p :: answerFirst a rest

/-- An answer built by execution is entered; the oldest of eight leaves (R167). -/
def enterAnswer (store : List StoredAnswer) (a : StoredAnswer) : List StoredAnswer :=
  store.drop (store.length + 1 - Config.storedAnswers) ++ [a]

/-- The frame is answered from the store (R166). -/
def State.replayAnswer (s : State) (a : StoredAnswer) : State :=
  { s with link := { s.link with places := answerFirst a s.link.places }
           counters := { s.counters with replays := s.counters.replays + 1 } }

/-- The answer built by execution: counted if it is a refusal, entered in the store, and given to the place
(R166, R167, R168). -/
def State.giveAnswer (s : State) (seq type : Byte) (a : Answer) : State :=
  { s with link := { s.link with
             places := answerFirst { seq := seq, type := type, answer := a } s.link.places
             store := enterAnswer s.link.store { seq := seq, type := type, answer := a } }
           counters := if a.isRefusal then { s.counters with refusals := s.counters.refusals + 1 } else s.counters }

/-- The dispatcher takes the frame (R166): only as the oldest WAITING one, and not after a PART_RESET has been taken
(R168). It is answered from the store or executed; run is the execution, giving the state it leaves and the answer. -/
def State.takeFrame (s : State) (seq type : Byte) (payload : List Byte) (run : State → State × Answer) : State :=
  if s.link.stopped = false ∧ s.link.nextFrame = some { seq := seq, type := type, payload := payload } then
    match s.link.stored seq with
    | some a => s.replayAnswer a
    | none => ((run s).1).giveAnswer seq type (run s).2
  else s

/-- The dispatcher's second and third steps: BAD_FIELD when the operands do not parse, else the owner decides (R168). -/
def State.validated {α : Type} (operands : Option α) (owner : α → State → State × Answer) (s : State) : State × Answer :=
  match operands with
  | some a => owner a s
  | none => (s, .refused .badField)

/-! ### One event -/

/-- An event reaches the part: not while it is held in reset (R178). At its end the arbiter decides if it can (R169). -/
def State.event (s : State) (act : State → State) : State := if s.held.isSome then s else (act s).arbitrate

end Sys2Proof.Machine
end

