-- ==== Sys2Proof/Machine/Reset.lean ====
section
/-!
DEFINITION. The three resets and the segment's states: the entry into RESETTING with every block's segment-reset rule
(R19, R46, R62, R82, R101, R103, R122, R140), the entry into RUNNING (R105), the link reset (R156, R172) and the part
reset (R177, R178).
-/

namespace Sys2Proof.Machine

/-! ### Entry into RESETTING -/

/-- Segment Control at the entry (R103). -/
def State.segEnterResetting (s : State) (cause : RestartCause) : State :=
  { s with seg := { s.seg with state := .resetting, hold := some s.params.segResetHold, settle := none, cause := cause }
           segRst := true }

/-- The transaction is abandoned, without an outcome; the grant is released without a decision, and the share counters
are 0 (R82, R101). The turnaround is measured from the entry into RUNNING then (R85). -/
def State.abandon (s : State) : State :=
  { s with engine := { txn := none, turnaround := none }
           sched := { delayedShare := 0, collectShare := 0 } }

/-- The summary fault of the entries discarded together, first and last by number (R19, R147). -/
def Pwq.summary (h : HeadedQueue) : FaultDetail :=
  .writeLostSummary (h.behind.length + 1) h.head.number ((h.behind.getLast?.map (·.number)).getD h.head.number)

/-- Every PWQ entry is discarded together under one fault, and every posting stamp becomes none (R19, R31). -/
def State.discardAll (s : State) : State :=
  match s.pwq.queue with
  | none => s
  | some h =>
    { s with
      pwq := { s.pwq with queue := none
                          lossCount := satAdd s.pwq.lossCount (h.behind.length + 1) Config.lossMax }
      counters := { s.counters with
        postedLost := s.counters.postedLost + BitVec.ofNat 32 (h.behind.length + 1) }
      notices := s.notices.enterFault (Pwq.summary h) }

/-- Every posting stamp becomes none (R31). -/
def State.clearStamps (s : State) : State :=
  { s with drt := s.drt.mapSlots fun sl => { sl with postingStamp := none } }

/-- What the reset does to slot i (R46, R62). -/
def State.resetSlot (s : State) (i : SlotId) : State :=
  match s.slot i with
  | none => s
  | some sl =>
    match sl.state with
    | .waiting => if sl.req = .barrier then s.completeBarrier i else s.completeWith i sl .segmentReset
    | .active => s.completeWith i sl .segmentReset
    | .orphaned => s.freeSlot i
    | .complete => s

/-- What the reset does to the table, slot by slot (R46; notes/assumptions/19.md). -/
def State.resetSlots (s : State) : State := allSlots.foldl State.resetSlot s

/-- A node record at the entry: what was learned is cleared, the attributes kept (R122). -/
def NodeRecord.reset (r : NodeRecord) : NodeRecord :=
  { NodeRecord.fresh with postable := r.postable, packetSize := r.packetSize }

/-- The Node Table and the Attention Unit at the entry (R122, R140). -/
def State.resetLearned (s : State) : State :=
  { s with nodes := s.nodes.map NodeRecord.reset
           attn := { members := [], pointer := none, holdoff := none } }

/-- The segment enters RESETTING from RUNNING or SETTLING (R103, R106). -/
def State.enterResetting (s : State) (cause : RestartCause) : State :=
  (((s.segEnterResetting cause).abandon.discardAll.clearStamps).resetSlots).resetLearned

/-- A SEGMENT_RESET acts on the segment by its state (R106). -/
def State.segmentReset (s : State) : State :=
  match s.seg.state with
  | .running => s.enterResetting .request
  | .settling => s.enterResetting .request
  | .resetting => { s with seg := { s.seg with hold := some s.params.segResetHold } }

/-! ### Release and entry into RUNNING -/

/-- The segment enters RUNNING: the SEGMENT_RESTARTED fault, the turnaround, then the first decision (R85, R105). -/
def State.enterRunning (s : State) : State :=
  State.schedule
    { s with seg := { s.seg with state := .running, hold := none, settle := none }
             notices := s.notices.enterFault (.segmentRestarted s.seg.cause s.seg.bitRate)
             engine := { s.engine with turnaround := some Config.turnaround } }

/-- SEG_RST is released, the stored rate applied, and the segment enters SETTLING, with the settle deadline read now
(R104). -/
def State.releaseSegment (s : State) : State :=
  { s with segRst := false
           seg := { s.seg with state := .settling, hold := none, settle := some s.params.segSettle,
                               bitRate := some s.params.segBitRate } }

/-- The hold deadline expires; with SEG_SETTLE at 0 the stay in SETTLING takes no time (R104). -/
def State.holdExpires (s : State) : State :=
  if s.params.segSettle = 0 then s.releaseSegment.enterRunning else s.releaseSegment

/-! ### Link reset and part reset -/

/-- A link reset (R156, R172). -/
def State.linkReset (s : State) : State :=
  { s with link := { s.link with framer := .hunt, newestPlaced := none, places := [], store := [], nakPending := false,
                                 tx := none }
           notices := s.notices.rewind }

/-- A part reset ends: every block at its part-reset values, and the arbiter decides (R169, R177, R178). -/
def State.partReset (s : State) (cause : ResetCause) (lspd : BitVec 2) : State :=
  (State.afterPartReset cause lspd s.segAttn s.pending).arbitrate

/-- The part is held in reset from now on: TXD idle at once, the pair not driven, SEG_RST asserted (R178;
notes/assumptions/8.md). -/
def State.holdInReset (s : State) (cause : ResetCause) : State :=
  { s with held := some cause
           segRst := true
           engine := { txn := none, turnaround := none }
           link := { s.link with tx := none } }

end Sys2Proof.Machine
end

