-- ==== Sys2Proof/Machine/DeadlineEvents.lean ====
section
/-!
DEFINITION. The expiries of the blocks' own deadlines: HEAD_GAP (R12), SLOT_GAP (R39), DISCARD (R42), FETCH_ELIGIBLE
(R136), SURVEY_HOLDOFF (R131) and RESEND (R155). An expiry finds its deadline running, or nothing happens.
-/

namespace Sys2Proof.Machine

/-- The head leaves GAP for READY, meets the ABSENT check, and the scheduler decides (R8, R12, R16, R77). -/
def State.headGapEnds (s : State) : State :=
  match s.pwq.queue with
  | none => s
  | some q =>
    match q.headState with
    | .gap _ => ({ s with pwq := { s.pwq with queue := some { q with headState := .ready } } }.checkHead).schedule
    | .ready => s
    | .inFlight => s

/-- HEAD_GAP_EXPIRY (R12). -/
def execHeadGapExpiry (s : State) : Host.Outcome State Fault Refusal := .next (s.event State.headGapEnds)

/-- Slot i's gap deadline becomes none, and the scheduler decides (R39, R77). -/
def State.slotGapEnds (s : State) (i : SlotId) : State :=
  match s.slot i with
  | none => s
  | some sl => if sl.gap.isSome then (s.setSlot i (some { sl with gap := none })).schedule else s

/-- SLOT_GAP_EXPIRY (R39). -/
def execSlotGapExpiry (i : SlotId) (s : State) : Host.Outcome State Fault Refusal :=
  .next (s.event fun t => t.slotGapEnds i)

/-- The COMPLETION_DISCARDED details of a slot (R42, R61, R147). -/
def Slot.discardDetail (i : SlotId) (sl : Slot) : FaultDetail :=
  .completionDiscarded i sl.req sl.discardCount sl.result sl.leftover

/-- A COMPLETE slot is thrown away: FREE, a fault handed over, the discard counted (R42, R61). -/
def State.discardSlot (s : State) (i : SlotId) (sl : Slot) : State :=
  let t := s.freeSlot i
  { t with notices := t.notices.enterFault (sl.discardDetail i)
           counters := { t.counters with completionsDiscarded := t.counters.completionsDiscarded + 1 } }

/-- Slot i's discard deadline expires (R42). -/
def State.discardEnds (s : State) (i : SlotId) : State :=
  match s.slot i with
  | none => s
  | some sl => if sl.discard.isSome then s.discardSlot i sl else s

/-- DISCARD_EXPIRY (R42). -/
def execDiscardExpiry (i : SlotId) (s : State) : Host.Outcome State Fault Refusal :=
  .next (s.event fun t => t.discardEnds i)

/-- A node's fetch eligible time becomes none; the offer may change (R128, R136). -/
def State.fetchEligibleEnds (s : State) (n : NodeId) : State :=
  if (s.node n).fetchEligible.isSome then (s.setNode n { s.node n with fetchEligible := none }).schedule else s

/-- FETCH_ELIGIBLE_EXPIRY (R136). -/
def execFetchEligibleExpiry (n : NodeId) (s : State) : Host.Outcome State Fault Refusal :=
  .next (s.event fun t => t.fetchEligibleEnds n)

/-- The survey holdoff becomes none; a SURVEY may be offered (R128, R131). -/
def State.holdoffEnds (s : State) : State :=
  if s.attn.holdoff.isSome then { s with attn := { s.attn with holdoff := none } }.schedule else s

/-- SURVEY_HOLDOFF_EXPIRY (R131). -/
def execSurveyHoldoffExpiry (s : State) : Host.Outcome State Fault Refusal := .next (s.event State.holdoffEnds)

/-- The resend deadline expires: every SENT entry becomes UNSENT (R155). -/
def State.resendEnds (s : State) : State :=
  if s.notices.resend.isSome then { s with notices := s.notices.rewind } else s

/-- RESEND_EXPIRY (R155). -/
def execResendExpiry (s : State) : Host.Outcome State Fault Refusal := .next (s.event State.resendEnds)

end Sys2Proof.Machine
end

