-- ==== Sys2Proof/Machine/DrtOps.lean ====
section
/-!
DEFINITION. The Delayed Request Table's part in a request: repeats, filling, cancelling (R25 to R29, R44, R55, R56, R69).
POST_WRITE handed over by R5 uses the same operations.
-/

namespace Sys2Proof.Machine

/-- A READ_BLOCK slot holds fetched bytes not yet handed over (R55). -/
def Slot.undelivered (sl : Slot) : Bool :=
  match sl.req with
  | .readBlock _ _ _ => decide (sl.deliveryCursor < sl.fetchCursor)
  | _ => false

/-- The PARTIAL answer, with the delivery cursor raised to the fetch cursor (R56). -/
def State.partialAnswer (s : State) (i : SlotId) (sl : Slot) : State × Answer :=
  (s.setSlot i (some { sl with deliveryCursor := sl.fetchCursor }),
   .partialData i sl.state sl.deliveryCursor ((sl.data.take sl.fetchCursor).drop sl.deliveryCursor))

/-- A repeat of a WAITING or ACTIVE slot (R27, R55). The ordering hold applies unless the stamp is none (R66, R69). -/
def State.runningAnswer (s : State) (i : SlotId) (sl : Slot) : State × Answer :=
  if sl.undelivered then
    if sl.dataStamp = .clear then s.partialAnswer i sl else (s, .deferred i sl.state .order)
  else (s, .deferred i sl.state (s.holdReason i sl))

/-- A repeat of a COMPLETE slot: RESULT, which frees the slot, or the ORDER hold (R28, R58, R69). -/
def State.completeAnswer (s : State) (i : SlotId) (sl : Slot) : State × Answer :=
  if sl.dataStamp = .clear then (s.freeSlot i, .result i sl.result sl.tail)
  else (s, .deferred i .complete .order)

/-- A repeat of slot i (R27, R28, R55). A match is a live slot, so the arms for a FREE or ORPHANED slot are not reached
(R23). -/
def State.repeatAnswer (s : State) (i : SlotId) : State × Answer :=
  match s.slot i with
  | none => (s, .refused .noSuchSlot)
  | some sl =>
    match sl.state with
    | .complete => s.completeAnswer i sl
    | .waiting => s.runningAnswer i sl
    | .active => s.runningAnswer i sl
    | .orphaned => (s, .refused .noSuchSlot)

/-- The hold reason of a slot just filled (R26, R29). -/
def State.fillReason (s : State) (i : SlotId) : HoldReason :=
  match s.slot i with
  | some sl => s.holdReason i sl
  | none => .queued

/-- A new request fills slot i (R26). A BARRIER that is posting-clear completes at once and is answered as a repeat of
its COMPLETE slot (R37); any other kind is a new candidate, so the scheduler decides (R77) after the answer is built. -/
def State.fillAnswer (s : State) (i : SlotId) (req : DelayedReq) (notify : Bool) : State × Answer :=
  let t := s.fillSlot i req notify
  if req = .barrier then
    if t.clearBarrier i then (t.completeBarrier i).repeatAnswer i else (t, .deferred i .waiting (t.fillReason i))
  else (t.schedule, .deferred i .waiting (t.fillReason i))

/-- A delayed request taken by the table: the four checks of R25 in order. -/
def State.takeDelayed (req : DelayedReq) (notify : Bool) (s : State) : State × Answer :=
  match s.liveMatch req with
  | some i => s.repeatAnswer i
  | none =>
    if s.reqAbsent req then (s, .refused .nodeAbsent)
    else
      match s.lowestFree with
      | none => (s, .refused .tableFull)
      | some i => s.fillAnswer i req notify

/-- The owner's step of a delayed request (R168). -/
def State.delayedOwner (a : DelayedReq × Bool) (s : State) : State × Answer := s.takeDelayed a.1 a.2

/-- The record of a slot cancelled in flight: ORPHANED, its data and bytes delivered dropped (R44, R60;
notes/assumptions/24.md). -/
def Slot.orphan (sl : Slot) : Slot :=
  { sl with state := .orphaned, data := [], bytesDelivered := 0, bytesReceived := 0, fetchCursor := 0,
            deliveryCursor := 0 }

/-- CANCEL_SLOT by the state of the slot (R44). -/
def State.cancel (i : SlotId) (s : State) : State × Answer :=
  match s.slot i with
  | none => (s, .refused .noSuchSlot)
  | some sl =>
    match sl.state with
    | .orphaned => (s, .refused .noSuchSlot)
    | .waiting => (s.freeSlot i, .doneCancel i)
    | .complete => (s.freeSlot i, .doneCancel i)
    | .active =>
      if s.inFlight i then (s.setSlot i (some sl.orphan), .doneCancel i) else (s.freeSlot i, .doneCancel i)

end Sys2Proof.Machine
end

