-- ==== Sys2Proof/Machine/DelayedRequests.lean ====
section
/-!
DEFINITION. The commands of the Delayed Request Table: CONFIRM_WRITE, READ_REGS, READ_BLOCK, PROBE_NODE, BARRIER and
CANCEL_SLOT (R25 to R30, R36, R37, R44, R49, R55).
-/

namespace Sys2Proof.Machine

/-- CONFIRM_WRITE (R25). -/
def execConfirmWrite (seq : Byte) (payload : List Byte) (s : State) : Host.Outcome State Fault Refusal :=
  .next (s.event fun t =>
    t.takeFrame seq 0x10 payload (State.validated (confirmWriteOperands payload) State.delayedOwner))

/-- READ_REGS (R25). -/
def execReadRegs (seq : Byte) (payload : List Byte) (s : State) : Host.Outcome State Fault Refusal :=
  .next (s.event fun t =>
    t.takeFrame seq 0x11 payload (State.validated (readRegsOperands payload) State.delayedOwner))

/-- READ_BLOCK (R49, R55). -/
def execReadBlock (seq : Byte) (payload : List Byte) (s : State) : Host.Outcome State Fault Refusal :=
  .next (s.event fun t =>
    t.takeFrame seq 0x12 payload (State.validated (readBlockOperands payload) State.delayedOwner))

/-- PROBE_NODE (R25, R36). -/
def execProbeNode (seq : Byte) (payload : List Byte) (s : State) : Host.Outcome State Fault Refusal :=
  .next (s.event fun t =>
    t.takeFrame seq 0x13 payload (State.validated (probeNodeOperands payload) State.delayedOwner))

/-- BARRIER (R25, R26, R37). -/
def execBarrier (seq : Byte) (payload : List Byte) (s : State) : Host.Outcome State Fault Refusal :=
  .next (s.event fun t =>
    t.takeFrame seq 0x14 payload (State.validated (barrierOperands payload) State.delayedOwner))

/-- CANCEL_SLOT (R44). -/
def execCancelSlot (seq : Byte) (payload : List Byte) (s : State) : Host.Outcome State Fault Refusal :=
  .next (s.event fun t => t.takeFrame seq 0x15 payload (State.validated (cancelOperands payload) State.cancel))

end Sys2Proof.Machine
end

