-- ==== Sys2Proof/Machine/LinkEvents.lean ====
section
/-!
DEFINITION. The commands of the host link: frames received, bad, timed out or transmitted, BREAK, and the two dispatcher
rows that are not one request type, UNKNOWN_TYPE_REQUEST and REPLAY (R161 to R173).
-/

namespace Sys2Proof.Machine

/-- UNKNOWN_TYPE_REQUEST: a type that is no request type is refused BAD_TYPE (R168). -/
def execUnknownTypeRequest (seq type : Byte) (payload : List Byte) (s : State) : Host.Outcome State Fault Refusal :=
  .next (s.event fun t =>
    if requestTypes.contains type then t else t.takeFrame seq type payload fun u => (u, .refused .badType))

/-- REPLAY: a frame whose sequence is stored is answered from the store; the request is not executed (R166). A frame
whose sequence is not stored is no replay. -/
def execReplay (seq type : Byte) (payload : List Byte) (s : State) : Host.Outcome State Fault Refusal :=
  .next (s.event fun t =>
    if (t.link.stored seq).isSome then t.takeFrame seq type payload fun u => (u, .refused .badType) else t)

/-- FRAME_RECEIVED: the characters up to the second CRC character; the framer decides (R161, R164, R165). -/
def execFrameReceived (chars : List Byte) (s : State) : Host.Outcome State Fault Refusal :=
  .next (s.event fun t => t.takeChars chars)

/-- BAD_FRAME: the characters up to the one at which the fault is found; the framer decides (R161, R162). -/
def execBadFrame (chars : List Byte) (s : State) : Host.Outcome State Fault Refusal :=
  .next (s.event fun t => t.takeChars chars)

/-- FRAME_GAP_TIMEOUT (R161, R162). -/
def execFrameGapTimeout (s : State) : Host.Outcome State Fault Refusal := .next (s.event State.frameGap)

/-- FRAME_START_CHARACTER: the framer takes a character A5h (R161). -/
def execFrameStartCharacter (s : State) : Host.Outcome State Fault Refusal := .next (s.event fun t => t.takeChar 0xA5)

/-- What the low period of a BREAK does to the framer: one character 00h, then the gap (R171; notes/assumptions/11.md). -/
def State.lowPeriod (s : State) : State := (s.takeChar 0).frameGap

/-- The link reset of a BREAK; a PART_RESET taken and not yet fully answered takes effect now (R172, R173). -/
def State.breakReset (s : State) (lspd : BitVec 2) : State :=
  if s.link.stopped then s.linkReset.partReset .request lspd else s.linkReset

/-- BREAK (R171). -/
def execLineBreak (lspd : BitVec 2) (s : State) : Host.Outcome State Fault Refusal :=
  .next (s.event fun t => t.lowPeriod.breakReset lspd)

/-- The answer being transmitted is that of a PART_RESET (R179). -/
def Place.sendsReset (p : Place) : Bool :=
  match p.state with
  | .sending a => a.answer == .donePartReset
  | _ => false

/-- The transmitter has sent the last character of an answer: its place becomes empty, and the reset of a PART_RESET
takes place (R164, R170, R179). -/
def State.answerSent (s : State) (lspd : BitVec 2) : State :=
  if s.link.places.any Place.sendsReset then s.partReset .request lspd
  else { s with link := { s.link with tx := none, places := s.link.places.filter fun p => !p.isSending } }

/-- The last character of the frame on TXD has been sent (R170). -/
def State.frameSent (s : State) (lspd : BitVec 2) : State :=
  match s.link.tx with
  | none => s
  | some o =>
    match o.kind with
    | .hello => { s with link := { s.link with tx := none, helloOffered := false } }
    | .linkNak => { s with link := { s.link with tx := none } }
    | .answer => s.answerSent lspd
    | .notice _ => { s with link := { s.link with tx := none } }
    | .hint _ => { s with link := { s.link with tx := none } }

/-- FRAME_TRANSMITTED (R170). -/
def execFrameTransmitted (lspd : BitVec 2) (s : State) : Host.Outcome State Fault Refusal :=
  .next (s.event fun t => t.frameSent lspd)

end Sys2Proof.Machine
end

