-- ==== Sys2Proof/Machine/LocalRequests.lean ====
section
/-!
DEFINITION. The commands answered from the part's own state: NOTICE_ACK (R152, R153), SET_NODE, GET_NODE (R118, R120),
SET_PARAM, GET_PARAM (R182, R183), GET_STATUS (R176), IDENTIFY (R186), SEGMENT_RESET (R185) and PART_RESET (R179).
-/

namespace Sys2Proof.Machine

/-- The first r entries leave: stamps naming them fall to none, and the scheduler decides when the queue falls to the
gate of candidate C (R68, R76, R77, R153). -/
def State.removeNotices (s : State) (r : Nat) : State :=
  let t := { s with
    notices := s.notices.removeFirst r s.params.resendTime
    drt := s.drt.mapSlots (Slot.forgetNotices ((s.notices.queue.take r).map (·.number))) }
  if Config.collectGate < s.notices.queue.length ∧ s.notices.queue.length - r ≤ Config.collectGate then t.schedule else t

/-- The distance of a notice number from the next one to issue (R152). -/
def State.ackDistance (s : State) (n : Half) : Nat := (s.notices.next - n).toNat

/-- The entry at a distance of 1 to the occupancy is SENT (R152). -/
def State.sentAt (s : State) (d : Nat) : Bool :=
  match s.notices.queue[s.notices.queue.length - d]? with
  | some e => e.state == .sent
  | none => false

/-- NOTICE_ACK by the distance of the number named (R152). -/
def State.acknowledge (n : Half) (s : State) : State × Answer :=
  let d := s.ackDistance n
  let k := s.notices.queue.length
  if 1 ≤ d ∧ d ≤ k then
    if s.sentAt d then (s.removeNotices (k - d + 1), .doneAck (k - d + 1) (d - 1)) else (s, .refused .ackRange)
  else if k < d ∧ d ≤ 32768 then (s, .doneAck 0 k)
  else (s, .refused .ackRange)

/-- A node record as SET_NODE changes it (R118). -/
def NodeRecord.configured (r : NodeRecord) (postable : Bool) (size : PacketSize) (clearAbsence : Bool) : NodeRecord :=
  { r with postable := postable
           packetSize := size
           presence := if clearAbsence then .unknown else r.presence
           silence := if clearAbsence then 0 else r.silence }

/-- SET_NODE (R118). -/
def State.configureNode (a : NodeId × Bool × PacketSize × Bool) (s : State) : State × Answer :=
  let r := (s.node a.1).configured a.2.1 a.2.2.1 a.2.2.2
  (s.setNode a.1 r, .doneNode a.1 r)

/-- GET_NODE (R120). -/
def State.readNode (n : NodeId) (s : State) : State × Answer := (s, .doneNode n (s.node n))

/-- SET_PARAM: the two checks of R182, then the value is stored. -/
def State.storeParam (a : Byte × Half) (s : State) : State × Answer :=
  match paramOf a.1 with
  | none => (s, .refused .badParam)
  | some p =>
    if p.allows a.2.toNat then
      ({ s with params := s.params.set a.2.toNat p }, .doneSetParam p a.2.toNat (s.params.get p))
    else (s, .refused .badParam)

/-- GET_PARAM (R183). -/
def State.readParam (b : Byte) (s : State) : State × Answer :=
  match paramOf b with
  | none => (s, .refused .badParam)
  | some p => (s, .doneGetParam p (s.params.get p) (Params.default.get p))

/-- GET_STATUS (R176). -/
def State.readStatus (_ : Unit) (s : State) : State × Answer := (s, .doneStatus s.status)

/-- IDENTIFY (R186). -/
def State.identity (_ : Unit) (s : State) : State × Answer := (s, .doneIdentify)

/-- SEGMENT_RESET: the answer carries the state in which it was taken (R106, R185). -/
def State.resetSegment (_ : Unit) (s : State) : State × Answer := (s.segmentReset, .doneSegmentReset s.seg.state)

/-- PART_RESET: the dispatcher takes no further frame; the reset follows the answer (R168, R179). -/
def State.requestReset (_ : Unit) (s : State) : State × Answer :=
  ({ s with link := { s.link with stopped := true } }, .donePartReset)

/-- NOTICE_ACK (R152). -/
def execNoticeAck (seq : Byte) (payload : List Byte) (s : State) : Host.Outcome State Fault Refusal :=
  .next (s.event fun t => t.takeFrame seq 0x20 payload (State.validated (ackOperands payload) State.acknowledge))

/-- SET_NODE (R118). -/
def execSetNode (seq : Byte) (payload : List Byte) (s : State) : Host.Outcome State Fault Refusal :=
  .next (s.event fun t => t.takeFrame seq 0x30 payload (State.validated (setNodeOperands payload) State.configureNode))

/-- GET_NODE (R120). -/
def execGetNode (seq : Byte) (payload : List Byte) (s : State) : Host.Outcome State Fault Refusal :=
  .next (s.event fun t => t.takeFrame seq 0x31 payload (State.validated (getNodeOperands payload) State.readNode))

/-- SET_PARAM (R182). -/
def execSetParam (seq : Byte) (payload : List Byte) (s : State) : Host.Outcome State Fault Refusal :=
  .next (s.event fun t => t.takeFrame seq 0x32 payload (State.validated (setParamOperands payload) State.storeParam))

/-- GET_PARAM (R183). -/
def execGetParam (seq : Byte) (payload : List Byte) (s : State) : Host.Outcome State Fault Refusal :=
  .next (s.event fun t => t.takeFrame seq 0x33 payload (State.validated (getParamOperands payload) State.readParam))

/-- GET_STATUS (R176). -/
def execGetStatus (seq : Byte) (payload : List Byte) (s : State) : Host.Outcome State Fault Refusal :=
  .next (s.event fun t => t.takeFrame seq 0x34 payload (State.validated (noOperands payload) State.readStatus))

/-- IDENTIFY (R186). -/
def execIdentify (seq : Byte) (payload : List Byte) (s : State) : Host.Outcome State Fault Refusal :=
  .next (s.event fun t => t.takeFrame seq 0x35 payload (State.validated (noOperands payload) State.identity))

/-- SEGMENT_RESET (R185). -/
def execSegmentReset (seq : Byte) (payload : List Byte) (s : State) : Host.Outcome State Fault Refusal :=
  .next (s.event fun t => t.takeFrame seq 0x3E payload (State.validated (noOperands payload) State.resetSegment))

/-- PART_RESET (R179). -/
def execPartReset (seq : Byte) (payload : List Byte) (s : State) : Host.Outcome State Fault Refusal :=
  .next (s.event fun t => t.takeFrame seq 0x3F payload (State.validated (noOperands payload) State.requestReset))

end Sys2Proof.Machine
end

