-- ==== Sys2Proof/Machine/PostedRequests.lean ====
section
/-!
DEFINITION. The commands POST_WRITE and BROADCAST_WRITE (R4 to R7).
-/

namespace Sys2Proof.Machine

/-- An accepted write is appended; in an empty queue it is the head in READY, so the scheduler decides (R7, R77). -/
def State.acceptWrite (s : State) (target : Option NodeId) (addr : Half) (data : List Byte) (seq : Byte) :
    State × Answer :=
  let t := { s with pwq := s.pwq.append target addr data seq }
  (if s.pwq.queue.isNone then t.schedule else t, .accepted s.pwq.nextNumber)

/-- A POST_WRITE to a node that is not postable (R5). -/
def State.handOver (s : State) (n : NodeId) (addr : Half) (data : List Byte) : State × Answer :=
  if Config.confirmMax < data.length then (s, .refused .tooLong)
  else s.takeDelayed (.confirmWrite n addr data) false

/-- The four checks of R4, in order. -/
def State.postWrite (seq : Byte) (a : NodeId × Half × List Byte) (s : State) : State × Answer :=
  if (s.node a.1).postable = false then s.handOver a.1 a.2.1 a.2.2
  else if s.absent a.1 then (s, .refused .nodeAbsent)
  else if s.pwq.hasRoom a.2.2.length then s.acceptWrite (some a.1) a.2.1 a.2.2 seq
  else (s, .refused .queueFull)

/-- The check of R6. -/
def State.broadcastWrite (seq : Byte) (a : Half × List Byte) (s : State) : State × Answer :=
  if s.pwq.hasRoom a.2.length then s.acceptWrite none a.1 a.2 seq else (s, .refused .queueFull)

/-- POST_WRITE (R4). -/
def execPostWrite (seq : Byte) (payload : List Byte) (s : State) : Host.Outcome State Fault Refusal :=
  .next (s.event fun t =>
    t.takeFrame seq 0x01 payload (State.validated (postWriteOperands payload) (State.postWrite seq)))

/-- BROADCAST_WRITE (R6). -/
def execBroadcastWrite (seq : Byte) (payload : List Byte) (s : State) : Host.Outcome State Fault Refusal :=
  .next (s.event fun t =>
    t.takeFrame seq 0x02 payload (State.validated (broadcastOperands payload) (State.broadcastWrite seq)))

end Sys2Proof.Machine
end

