-- ==== Sys2Proof/Machine/ResetEvents.lean ====
section
/-!
DEFINITION. The part reset's events and the segment's release: POWER_ON, NRST_LOW, PART_RESET_END (R177, R178),
HOLD_EXPIRY (R104) and SETTLE_EXPIRY (R105).
-/

namespace Sys2Proof.Machine

/-- POWER_ON: a reset with cause POWER_ON starts, also during an NRST low (R178). -/
def execPowerOn (s : State) : Host.Outcome State Fault Refusal := .next (s.holdInReset .powerOn)

/-- The cause of the reset while NRST is low: a power-on under way keeps its own (R178). -/
def pinCause : Option ResetCause → ResetCause
  | some .powerOn => .powerOn
  | _ => .pin

/-- NRST_LOW (R178). -/
def execNrstLow (s : State) : Host.Outcome State Fault Refusal := .next (s.holdInReset (pinCause s.held))

/-- PART_RESET_END: the reset under way ends, with the cause recorded so far (R177, R178). -/
def execPartResetEnd (lspd : BitVec 2) (s : State) : Host.Outcome State Fault Refusal :=
  match s.held with
  | some cause => .next (s.partReset cause lspd)
  | none => .next s

/-- HOLD_EXPIRY: the hold deadline runs exactly in RESETTING (R102, R104). -/
def execHoldExpiry (s : State) : Host.Outcome State Fault Refusal :=
  .next (s.event fun t => if t.seg.hold.isSome then t.holdExpires else t)

/-- SETTLE_EXPIRY: the settle deadline runs exactly in SETTLING (R102, R105). -/
def execSettleExpiry (s : State) : Host.Outcome State Fault Refusal :=
  .next (s.event fun t => if t.seg.settle.isSome then t.enterRunning else t)

end Sys2Proof.Machine
end

