-- ==== Sys2Proof/Machine/SegmentEvents.lean ====
section
/-!
DEFINITION. The commands of the segment's lines: SEG_ATTN, and the phases of a transaction from the turnaround to its
outcome (R85 to R99, R125, R128). An event that does not fit the phase finds nothing to act on (R95).
-/

namespace Sys2Proof.Machine

/-- SEG_ATTN_ASSERTED: the level is the line's; the offer may now be a SURVEY (R125, R128). -/
def execSegAttnAsserted (s : State) : Host.Outcome State Fault Refusal :=
  .next ({ s with segAttn := true }.event State.schedule)

/-- SEG_ATTN_RELEASED: an offered SURVEY is withdrawn (R125, R128). -/
def execSegAttnReleased (s : State) : Host.Outcome State Fault Refusal :=
  .next ({ s with segAttn := false }.event fun t => t)

/-- The transaction under way, if it is in this phase. -/
def State.inPhase (s : State) (p : Phase) : Option Transaction :=
  match s.engine.txn with
  | some t => if t.phase = p then some t else none
  | none => none

def State.setTxn (s : State) (t : Transaction) : State := { s with engine := { s.engine with txn := some t } }

/-- The turnaround has run out; a transaction that waited for it enters SENDING: its command packet is on the pair, and it
is counted as sent (R85, R86, R89, R192). -/
def State.turnaroundEnds (s : State) : State :=
  match s.inPhase .turnaround with
  | some t =>
    { s with engine := { txn := some { t with phase := .sending, driven := some t.cmd.packet }, turnaround := none }
             counters := { s.counters with transactionsSent := s.counters.transactionsSent + 1 } }
  | none => { s with engine := { s.engine with turnaround := none } }

/-- TURNAROUND_EXPIRY (R85). -/
def execTurnaroundExpiry (s : State) : Host.Outcome State Fault Refusal :=
  .next (s.event fun t => if t.engine.turnaround.isSome then t.turnaroundEnds else t)

/-- The phase after SENDING, by the command (R86). -/
def Command.afterSending (c : Command) : Phase :=
  match c.kind, c.target with
  | .survey, _ => .train
  | _, .broadcast => .window
  | _, _ => .listening

/-- COMMAND_SENT: the pair is released, and the window deadline is set, RESPONSE_WINDOW read now (R85, R86, R89). -/
def execCommandSent (s : State) : Host.Outcome State Fault Refusal :=
  .next (s.event fun t =>
    match t.inPhase .sending with
    | some x =>
      t.setTxn { x with phase := x.cmd.afterSending, driven := none, windowDeadline := some t.params.responseWindow }
    | none => t)

/-- RESPONSE_START_BIT (R90). -/
def execResponseStartBit (s : State) : Host.Outcome State Fault Refusal :=
  .next (s.event fun t =>
    match t.inPhase .listening with
    | some x => t.setTxn { x with phase := .receiving }
    | none => t)

/-- The outcome is NO_RESPONSE, which is counted (R90, R107). -/
def State.silent (s : State) (t : Transaction) : State :=
  State.deliver { s with counters := { s.counters with noResponses := s.counters.noResponses + 1 } } t .noResponse

/-- RESPONSE_WINDOW_EXPIRY (R90). -/
def execResponseWindowExpiry (s : State) : Host.Outcome State Fault Refusal :=
  .next (s.event fun t =>
    match t.inPhase .listening with
    | some x => t.silent x
    | none => t)

/-- An outcome of the characters received is classified and delivered, GARBLED being counted (R91, R107). -/
def State.classified (s : State) (t : Transaction) (o : SegOutcome) : State :=
  State.deliver
    { s with counters :=
        if o = SegOutcome.garbled then { s.counters with garbled := s.counters.garbled + 1 } else s.counters } t o

/-- Characters of the response are taken; at its end it is classified (R91). Characters beyond the end belong to no
response (R95). -/
def State.respond (s : State) (t : Transaction) (chars : List RxChar) : State :=
  let got := t.received ++ chars
  let n := responseLength t.cmd got
  if n ≤ got.length then s.classified t (classify t.cmd (got.take n)) else s.setTxn { t with received := got }

/-- RESPONSE_END (R91; notes/assumptions/13.md). -/
def execResponseEnd (chars : List RxChar) (s : State) : Host.Outcome State Fault Refusal :=
  .next (s.event fun t =>
    match t.inPhase .receiving with
    | some x => t.respond x chars
    | none => t)

/-- RESPONSE_GAP_TIMEOUT: the gap ends the response, which is GARBLED (R91, R92). -/
def execResponseGapTimeout (s : State) : Host.Outcome State Fault Refusal :=
  .next (s.event fun t =>
    match t.inPhase .receiving with
    | some x => t.classified x .garbled
    | none => t)

/-- The window after a broadcast packet has passed: the PWQ takes it as an ACK, and the Node Table takes no part
(R15, R81, R97). -/
def State.windowEnds (s : State) (t : Transaction) : State :=
  State.schedule (State.release
    (match s.pwq.queue with
      | some q => s.headAck q t.cmd.length
      | none => s))

/-- BROADCAST_WINDOW_EXPIRY (R97). -/
def execBroadcastWindowExpiry (s : State) : Host.Outcome State Fault Refusal :=
  .next (s.event fun t =>
    match t.inPhase .window with
    | some x => t.windowEnds x
    | none => t)

/-- The train ends: the marks go to the Node Table, then to the Attention Unit, and the grant is released
(R81, R99, R114, R130). -/
def State.trainEnds (s : State) (starts : List TrainStart) : State :=
  ((((s.surveyMarks (markedNodes starts)).surveyOutcome (markedNodes starts)).release).schedule)

/-- SURVEY_TRAIN_END (R99). -/
def execSurveyTrainEnd (starts : List TrainStart) (s : State) : Host.Outcome State Fault Refusal :=
  .next (s.event fun t =>
    match t.inPhase .train with
    | some _ => t.trainEnds starts
    | none => t)

end Sys2Proof.Machine
end

