-- ==== Sys2Proof/Machine/Dispatch.lean ====
section
/-!
DEFINITION. The meaning of every command: one arm per constructor of Instr, one direct call each.
-/

namespace Sys2Proof.Machine

def exec (i : Instr) (s : State) : Host.Outcome State Fault Refusal :=
  match i with
  | .postWrite seq payload => Sys2Proof.Machine.execPostWrite seq payload s
  | .broadcastWrite seq payload => Sys2Proof.Machine.execBroadcastWrite seq payload s
  | .confirmWrite seq payload => Sys2Proof.Machine.execConfirmWrite seq payload s
  | .readRegs seq payload => Sys2Proof.Machine.execReadRegs seq payload s
  | .readBlock seq payload => Sys2Proof.Machine.execReadBlock seq payload s
  | .probeNode seq payload => Sys2Proof.Machine.execProbeNode seq payload s
  | .barrier seq payload => Sys2Proof.Machine.execBarrier seq payload s
  | .cancelSlot seq payload => Sys2Proof.Machine.execCancelSlot seq payload s
  | .noticeAck seq payload => Sys2Proof.Machine.execNoticeAck seq payload s
  | .setNode seq payload => Sys2Proof.Machine.execSetNode seq payload s
  | .getNode seq payload => Sys2Proof.Machine.execGetNode seq payload s
  | .setParam seq payload => Sys2Proof.Machine.execSetParam seq payload s
  | .getParam seq payload => Sys2Proof.Machine.execGetParam seq payload s
  | .getStatus seq payload => Sys2Proof.Machine.execGetStatus seq payload s
  | .identify seq payload => Sys2Proof.Machine.execIdentify seq payload s
  | .segmentReset seq payload => Sys2Proof.Machine.execSegmentReset seq payload s
  | .partReset seq payload => Sys2Proof.Machine.execPartReset seq payload s
  | .unknownTypeRequest seq type payload => Sys2Proof.Machine.execUnknownTypeRequest seq type payload s
  | .replay seq type payload => Sys2Proof.Machine.execReplay seq type payload s
  | .frameReceived chars => Sys2Proof.Machine.execFrameReceived chars s
  | .badFrame chars => Sys2Proof.Machine.execBadFrame chars s
  | .frameGapTimeout => Sys2Proof.Machine.execFrameGapTimeout s
  | .lineBreak lspd => Sys2Proof.Machine.execLineBreak lspd s
  | .frameTransmitted lspd => Sys2Proof.Machine.execFrameTransmitted lspd s
  | .powerOn => Sys2Proof.Machine.execPowerOn s
  | .nrstLow => Sys2Proof.Machine.execNrstLow s
  | .partResetEnd lspd => Sys2Proof.Machine.execPartResetEnd lspd s
  | .holdExpiry => Sys2Proof.Machine.execHoldExpiry s
  | .settleExpiry => Sys2Proof.Machine.execSettleExpiry s
  | .segAttnAsserted => Sys2Proof.Machine.execSegAttnAsserted s
  | .segAttnReleased => Sys2Proof.Machine.execSegAttnReleased s
  | .turnaroundExpiry => Sys2Proof.Machine.execTurnaroundExpiry s
  | .commandSent => Sys2Proof.Machine.execCommandSent s
  | .responseWindowExpiry => Sys2Proof.Machine.execResponseWindowExpiry s
  | .responseEnd chars => Sys2Proof.Machine.execResponseEnd chars s
  | .responseGapTimeout => Sys2Proof.Machine.execResponseGapTimeout s
  | .broadcastWindowExpiry => Sys2Proof.Machine.execBroadcastWindowExpiry s
  | .surveyTrainEnd starts => Sys2Proof.Machine.execSurveyTrainEnd starts s
  | .headGapExpiry => Sys2Proof.Machine.execHeadGapExpiry s
  | .slotGapExpiry slot => Sys2Proof.Machine.execSlotGapExpiry slot s
  | .discardExpiry slot => Sys2Proof.Machine.execDiscardExpiry slot s
  | .fetchEligibleExpiry node => Sys2Proof.Machine.execFetchEligibleExpiry node s
  | .surveyHoldoffExpiry => Sys2Proof.Machine.execSurveyHoldoffExpiry s
  | .resendExpiry => Sys2Proof.Machine.execResendExpiry s
  | .responseStartBit => Sys2Proof.Machine.execResponseStartBit s
  | .frameStartCharacter => Sys2Proof.Machine.execFrameStartCharacter s

end Sys2Proof.Machine
end

