-- ==== Sys2Proof/Machine/Step.lean ====
section
/-!
DEFINITION. One step: the command at the front of the queue runs on the state with the queue's rest.
-/

namespace Sys2Proof.Machine

/-- Take the front command and run it; with no command waiting the block idles (notes/assumptions/5.md). -/
def step (s : State) : Host.Outcome State Fault Refusal :=
  match s.pending with
  | [] => .next s
  | c :: rest => exec c { s with pending := rest }

/-- s with the command the word spells at the front of its queue; s itself where the word spells none, as every word
does here (notes/assumptions/21.md). -/
def State.withFetchWord (s : State) (nbits w : Nat) : State :=
  match decodeTableWord nbits w with
  | some c => { s with pending := c :: s.pending }
  | none => s

end Sys2Proof.Machine
end

