-- ==== Sys2Proof/Safety.lean ====
section
/-!
DEFINITION. The invariants of the part that the rules state, as decidable properties of one state, each asked of a part
that is not held in reset (R178 sets the state when the reset ends); and the words the statements are written in.
-/

namespace Sys2Proof.Safety

open Sys2Proof.Machine

/-! ### Notice Queue (R143, R144, R149) -/

/-- k consecutive numbers that end just before next. -/
def numbersBefore (next : Half) (k : Nat) : List Half := (List.range k).map fun i => next - BitVec.ofNat 16 (k - i)

/-- The SENT entries form an unbroken run from the front (R149). -/
def sentRun : List Notice → Bool
  | [] => true
  | e :: rest => if e.state = .sent then sentRun rest else rest.all fun x => x.state == .unsent

/-- At most 24 entries, numbered consecutively up to the next number, the SENT ones in front, the resend deadline running
exactly while one is SENT, and one hint a slot on the Ready List (R43, R143, R144, R149, R158). That the list is ascending
is the model's choice (notes/assumptions/18.md); R158 leaves it unordered. -/
def NoticesOk (b : NoticeBlock) : Prop :=
  b.queue.length ≤ 24 ∧ b.queue.map (·.number) = numbersBefore b.next b.queue.length ∧ sentRun b.queue = true ∧
    b.resend.isSome = b.queue.any (fun e => e.state == .sent) ∧ b.ready.Pairwise (· < ·)

/-! ### Posted Write Queue (R2, R3) -/

/-- At most 16 entries and 1,024 data bytes, numbered consecutively up to the next entry number, and a posted-loss
counter of at most 65,535 (R2, R3, R18). -/
def PwqOk (q : Pwq) : Prop :=
  q.entries.length ≤ 16 ∧ q.bytes ≤ 1024 ∧ q.entries.map (·.number) = numbersBefore q.nextNumber q.entries.length ∧
    q.lossCount ≤ 65535

/-! ### Delayed Request Table (R23, R24, R75) -/

def isWaiting (sl : Option Slot) : Bool :=
  match sl with
  | some r => r.state == .waiting
  | none => false

/-- The delayed order list holds each WAITING slot once, and nothing else (R24). -/
def OrderOk (d : Drt) : Prop := d.order.Nodup ∧ ∀ i : SlotId, i ∈ d.order ↔ isWaiting d.slots[i] = true

/-- No two live slots have equal keys (R23). -/
def KeysDistinct (d : Drt) : Prop :=
  ∀ i j : SlotId, ∀ a b : Slot, d.slots[i] = some a → d.slots[j] = some b → a.state.live = true → b.state.live = true →
    a.req = b.req → i = j

/-- A BARRIER is COMPLETE, or it waits for a posted write (R37). -/
def BarriersWait (d : Drt) : Prop :=
  ∀ (i : SlotId) (sl : Slot), d.slots[i] = some sl → sl.req = .barrier →
    sl.state = .complete ∨ sl.state = .waiting ∧ sl.postingStamp ≠ none

/-- A posting stamp names an entry of the Posted Write Queue (R31). -/
def StampsOk (d : Drt) (q : Pwq) : Prop :=
  ∀ (i : SlotId) (sl : Slot) (k : Half), d.slots[i] = some sl → sl.postingStamp = some k →
    ∃ e ∈ q.entries, e.number = k

/-- A hint on the Ready List is that of a COMPLETE slot with NOTIFY set (R43). -/
def HintsOk (d : Drt) (ready : List SlotId) : Prop :=
  ∀ i ∈ ready, ∃ sl : Slot, d.slots[i] = some sl ∧ sl.state = .complete ∧ sl.notify = true

/-! ### The segment (R73, R102, R103) -/

/-- The part drives the transaction's command packet on the pair exactly while it is SENDING (R85, R86, R192). -/
def DrivenOk (x : Transaction) : Prop := x.driven = if x.phase = .sending then some x.cmd.packet else none

/-- The hold deadline runs exactly in RESETTING, with SEG_RST asserted, the settle deadline exactly in SETTLING, a
transaction is in flight only in RUNNING, and it has the pair only in SENDING (R73, R85, R102, R103, R104). -/
def SegmentOk (s : State) : Prop :=
  s.seg.hold.isSome = (s.seg.state == .resetting) ∧ s.segRst = (s.seg.state == .resetting) ∧
    s.seg.settle.isSome = (s.seg.state == .settling) ∧ (s.engine.txn.isSome = true → s.seg.state = .running) ∧
    ∀ x : Transaction, s.engine.txn = some x → DrivenOk x

/-- The attention set is empty whenever the segment is not RUNNING (R140). -/
def AttentionOk (s : State) : Prop := s.seg.state = .running ∨ s.attn.members = []

/-! ### Parameters (R181), link (R164, R167) -/

/-- The parameters with their ids and the ends of their ranges; DISCARD_TIME may also be 0 (R181). -/
def paramRows : List (ParamId × Byte × Nat × Nat) :=
  [(.attemptLimit, 1, 1, 4095), (.responseWindow, 2, 16, 1023), (.retryGap, 3, 32, 65535),
   (.discardTime, 4, 100, 60000), (.noticeWindow, 5, 1, 8), (.resendTime, 6, 10, 10000), (.delayedShare, 7, 1, 32),
   (.collectShare, 8, 1, 32), (.silenceLimit, 9, 1, 15), (.segBitRate, 10, 0, 4), (.segResetHold, 11, 1, 1000),
   (.segSettle, 12, 0, 5000), (.surveyHoldoff, 13, 1, 1000)]

/-- Every parameter holds a value in its range (R181, R182). -/
def ParamsOk (p : Params) : Prop :=
  (1 ≤ p.attemptLimit ∧ p.attemptLimit ≤ 4095) ∧ (16 ≤ p.responseWindow ∧ p.responseWindow ≤ 1023) ∧
    (32 ≤ p.retryGap ∧ p.retryGap ≤ 65535) ∧
    (p.discardTime = 0 ∨ 100 ≤ p.discardTime ∧ p.discardTime ≤ 60000) ∧
    (1 ≤ p.noticeWindow ∧ p.noticeWindow ≤ 8) ∧ (10 ≤ p.resendTime ∧ p.resendTime ≤ 10000) ∧
    (1 ≤ p.delayedShare ∧ p.delayedShare ≤ 32) ∧ (1 ≤ p.collectShare ∧ p.collectShare ≤ 32) ∧
    (1 ≤ p.silenceLimit ∧ p.silenceLimit ≤ 15) ∧ p.segBitRate ≤ 4 ∧
    (1 ≤ p.segResetHold ∧ p.segResetHold ≤ 1000) ∧ p.segSettle ≤ 5000 ∧
    (1 ≤ p.surveyHoldoff ∧ p.surveyHoldoff ≤ 1000)

/-- At most four places taken, at most eight stored answers, no two of the same sequence (R164, R167). -/
def LinkOk (l : Link) : Prop := l.places.length ≤ 4 ∧ l.store.length ≤ 8 ∧ (l.store.map (·.seq)).Nodup

/-- The table: the order list holds the WAITING slots, no two live slots have equal keys, a BARRIER that is not COMPLETE
waits for a posted write, stamps name queued entries, and hints COMPLETE slots (R23, R24, R31, R37, R43). -/
def TableOk (s : State) : Prop :=
  OrderOk s.drt ∧ KeysDistinct s.drt ∧ BarriersWait s.drt ∧ StampsOk s.drt s.pwq ∧ HintsOk s.drt s.notices.ready

/-! ### The words of the statements: requests -/

/-- The dispatcher executes this frame when its command comes: the part is out of reset, no PART_RESET has been taken, it
is the oldest WAITING frame, and no answer of its sequence is stored (R166, R168). -/
abbrev Executes (s : State) (seq type : Byte) (payload : List Byte) : Prop :=
  s.held = none ∧ s.link.stopped = false ∧ s.link.nextFrame = some { seq := seq, type := type, payload := payload } ∧
    s.link.stored seq = none

/-- The end of an executed request whose effect left u: its answer is stored and given to its place, and the outbound
arbiter decides (R166, R167, R169). AnswerStoredAndPlaced says what this does. -/
def answered (u : State) (seq type : Byte) (a : Answer) : State := (u.giveAnswer seq type a).arbitrate

/-- The seventeen request rows, each with its frame type (R189). -/
def requestRows (seq : Byte) (payload : List Byte) : List (Instr × Byte) :=
  [(.postWrite seq payload, 0x01), (.broadcastWrite seq payload, 0x02), (.confirmWrite seq payload, 0x10),
   (.readRegs seq payload, 0x11), (.readBlock seq payload, 0x12), (.probeNode seq payload, 0x13),
   (.barrier seq payload, 0x14), (.cancelSlot seq payload, 0x15), (.noticeAck seq payload, 0x20),
   (.setNode seq payload, 0x30), (.getNode seq payload, 0x31), (.setParam seq payload, 0x32),
   (.getParam seq payload, 0x33), (.getStatus seq payload, 0x34), (.identify seq payload, 0x35),
   (.segmentReset seq payload, 0x3E), (.partReset seq payload, 0x3F)]

/-- The four rows of a delayed request that goes to a node, with frame type and operands (R25, R189). -/
def nodeRequestRows (seq : Byte) (payload : List Byte) : List (Instr × Byte × Option (DelayedReq × Bool)) :=
  [(.confirmWrite seq payload, 0x10, confirmWriteOperands payload),
   (.readRegs seq payload, 0x11, readRegsOperands payload),
   (.readBlock seq payload, 0x12, readBlockOperands payload),
   (.probeNode seq payload, 0x13, probeNodeOperands payload)]

/-- The five rows that the Delayed Request Table fills slots for (R25). -/
def delayedRows (seq : Byte) (payload : List Byte) : List (Instr × Byte × Option (DelayedReq × Bool)) :=
  nodeRequestRows seq payload ++ [(.barrier seq payload, 0x14, barrierOperands payload)]

/-- Payload length and field ranges of a request type, as the table of R189 gives them. -/
def fieldsOk (type : Byte) (p : List Byte) : Bool :=
  let n := (p.getD 0 0).toNat
  let one := fun k => (p.getD k 0).toNat ≤ 1
  let two := fun k => (p.getD k 0).toNat * 256 + (p.getD (k + 1) 0).toNat
  let node := 1 ≤ n ∧ n ≤ 30
  if type = 0x01 then decide (4 ≤ p.length ∧ p.length ≤ 67 ∧ node ∧ two 1 + (p.length - 3) ≤ 65536)
  else if type = 0x02 then decide (3 ≤ p.length ∧ p.length ≤ 34 ∧ two 0 + (p.length - 2) ≤ 65536)
  else if type = 0x10 then decide (5 ≤ p.length ∧ p.length ≤ 36 ∧ node ∧ one 1 ∧ two 2 + (p.length - 4) ≤ 65536)
  else if type = 0x11 then
    decide (p.length = 5 ∧ node ∧ one 1 ∧ 1 ≤ (p.getD 4 0).toNat ∧ (p.getD 4 0).toNat ≤ 32 ∧
      two 2 + (p.getD 4 0).toNat ≤ 65536)
  else if type = 0x12 then
    decide (p.length = 6 ∧ node ∧ one 1 ∧ 1 ≤ two 4 ∧ two 4 ≤ 256 ∧ two 2 + two 4 ≤ 65536)
  else if type = 0x13 then decide (p.length = 2 ∧ node ∧ one 1)
  else if type = 0x14 then decide (p.length = 1 ∧ one 0)
  else if type = 0x15 then decide (p.length = 1 ∧ n ≤ 7)
  else if type = 0x20 then decide (p.length = 2)
  else if type = 0x30 then
    decide (p.length = 4 ∧ node ∧ one 1 ∧ ((p.getD 2 0).toNat = 8 ∨ (p.getD 2 0).toNat = 16 ∨ (p.getD 2 0).toNat = 32) ∧
      one 3)
  else if type = 0x31 then decide (p.length = 1 ∧ node)
  else if type = 0x32 then decide (p.length = 3 ∧ 1 ≤ n)
  else if type = 0x33 then decide (p.length = 1 ∧ 1 ≤ n)
  else decide (p.length = 0)

/-- Everything but the Link Interface and the counters is the same. -/
def SameBlocks (s t : State) : Prop :=
  t.held = s.held ∧ t.pwq = s.pwq ∧ t.drt = s.drt ∧ t.sched = s.sched ∧ t.engine = s.engine ∧ t.seg = s.seg ∧
    t.segRst = s.segRst ∧ t.segAttn = s.segAttn ∧ t.nodes = s.nodes ∧ t.attn = s.attn ∧ t.notices = s.notices ∧
    t.params = s.params ∧ t.pending = s.pending

/-- No live slot has the request's key (R23, R25). -/
def NoLiveMatch (s : State) (req : DelayedReq) : Prop :=
  ∀ (j : SlotId) (sl : Slot), s.slot j = some sl → sl.state.live = true → sl.req ≠ req

/-- i is the lowest-numbered FREE slot (R26). -/
def LowestFree (s : State) (i : SlotId) : Prop := s.slot i = none ∧ ∀ j : SlotId, j < i → (s.slot j).isSome = true

/-- s with slot i FREE: out of the order list, its hint off the Ready List (R28, R44). -/
def slotFreed (s : State) (i : SlotId) : State :=
  { s with drt := { slots := s.drt.slots.set i none, order := s.drt.order.filter (· != i) }
           notices := { s.notices with ready := s.notices.ready.filter (· != i) } }

/-! ### The words of the statements: segment and notices -/

/-- The transaction under way is x, in this phase, and the part is out of reset (R86). -/
abbrev InPhase (s : State) (x : Transaction) (p : Phase) : Prop := s.held = none ∧ s.engine.txn = some x ∧ x.phase = p

/-- The characters of a well-formed response: sync, kind, length, body and CRC, every stop bit good (R91, R193). -/
def responseChars (code : Byte) (content : List Byte) : List RxChar :=
  ([0x3C, code, byte content.length] ++ content ++ halfBytes (segmentCrc ([code, byte content.length] ++ content))).map
    fun b => { value := b, stopGood := true }

/-- The response kinds permitted for a command, by code, with the least and the most length; a DATA has the length the RD
asked for (R93, R94, R195). -/
def responseRows (cmd : Command) : List (Byte × Nat × Nat) :=
  match cmd.kind with
  | .wr => [(0x81, 0, 0), (0x83, 0, 0), (0x84, 1, 1)]
  | .rd => [(0x82, max 1 cmd.length, min 32 cmd.length), (0x83, 0, 0), (0x84, 1, 1)]
  | .fetch => [(0x83, 0, 0), (0x84, 1, 1), (0x85, 2, 18), (0x86, 0, 0)]
  | .probe => [(0x83, 0, 0), (0x87, 4, 4)]
  | .survey => []

/-- The number of characters at which a response ends: 5 plus its length when kind and length can be trusted, 37 when
they cannot (R91). A bad stop bit on either makes them untrusted: the model's reading (notes/assumptions/14.md). -/
def endOf (cmd : Command) (chars : List RxChar) : Nat :=
  match chars with
  | _ :: k :: l :: _ =>
    if k.stopGood && l.stopGood && (responseRows cmd).any (fun r =>
        r.1 == k.value && decide (r.2.1 ≤ l.value.toNat ∧ l.value.toNat ≤ r.2.2)) then 5 + l.value.toNat
    else 37
  | _ => 37

/-- A well-formed response that is permitted for the command, by code and body, and the outcome it stands for. Of a
REPORT's head bit 7 is the more-flag, bits 4..0 are the data count, and bits 6..5 are not examined (R93, R94, R193). -/
def Permitted (cmd : Command) (code : Byte) (content : List Byte) (o : SegOutcome) : Prop :=
  code = 0x81 ∧ cmd.kind = .wr ∧ content = [] ∧ o = .ack ∨
  code = 0x82 ∧ cmd.kind = .rd ∧ 1 ≤ content.length ∧ content.length ≤ 32 ∧ content.length = cmd.length ∧
    o = .data content ∨
  code = 0x83 ∧ cmd.kind ≠ .survey ∧ content = [] ∧ o = .wait ∨
  code = 0x84 ∧ (cmd.kind = .wr ∨ cmd.kind = .rd ∨ cmd.kind = .fetch) ∧
    (∃ r : Byte, content = [r] ∧ 1 ≤ r.toNat ∧ r.toNat ≤ 15 ∧ o = .refuse r) ∨
  code = 0x85 ∧ cmd.kind = .fetch ∧
    (∃ (head c : Byte) (data : List Byte), content = head :: c :: data ∧ data.length ≤ 16 ∧
      head.toNat % 32 = data.length ∧ o = .report (head.getLsbD 7) c data) ∨
  code = 0x86 ∧ cmd.kind = .fetch ∧ content = [] ∧ o = .empty ∨
  code = 0x87 ∧ cmd.kind = .probe ∧ content.length = 4 ∧ o = .ident content

/-- The characters reach the end of a response and are none that is permitted (R91 to R94). -/
def Faulty (cmd : Command) (chars : List RxChar) : Prop :=
  chars.length = endOf cmd chars ∧
    ∀ (code : Byte) (content : List Byte) (o : SegOutcome), Permitted cmd code content o → chars ≠ responseChars code content

/-- Command c ends the transaction x with this outcome: the window's expiry with NO_RESPONSE, a gap or a faulty response
with GARBLED, and a well-formed response with its own kind (R90 to R94). -/
def Ends (s : State) (x : Transaction) (c : Instr) (o : SegOutcome) : Prop :=
  s.held = none ∧ s.engine.txn = some x ∧
    (x.phase = .listening ∧ c = .responseWindowExpiry ∧ o = .noResponse ∨
     x.phase = .receiving ∧ c = .responseGapTimeout ∧ o = .garbled ∨
     x.phase = .receiving ∧ o = .garbled ∧ (∃ chars : List RxChar, c = .responseEnd chars ∧
       Faulty x.cmd (x.received ++ chars)) ∨
     x.phase = .receiving ∧ (∃ (code : Byte) (content : List Byte) (chars : List RxChar), c = .responseEnd chars ∧
       x.received ++ chars = responseChars code content ∧ Permitted x.cmd code content o))

/-- How many of these entries leave in a row as they come to the head, their nodes being ABSENT (R16). -/
def absentRun (s : State) (l : List Entry) : Nat :=
  (l.takeWhile fun e => e.target.any fun n => (s.node n).presence == .absent).length

/-- What the slots have of it when these entries leave the queue one after another, of which all but the first are
discarded, and the first too when first is 1, 0 when it was delivered. Every stamp that names one of them is none. The
BARRIER that waited for the entry at place m is COMPLETE with OK and the posted-loss count of that moment, which then
starts from 0; without one the count goes on (R17, R18, R31, R37, R67). -/
def StampsReleased (s t : State) (gone : List Entry) (first : Nat) : Prop :=
  (∀ (j : SlotId) (sl : Slot), s.slot j = some sl → ∃ r : Slot, t.slot j = some r ∧ r.req = sl.req ∧
    r.postingStamp = if gone.any (fun e => sl.postingStamp == some e.number) then none else sl.postingStamp) ∧
  (∀ (j : SlotId) (sl : Slot) (m : Nat) (e : Entry), s.slot j = some sl → sl.req = .barrier → sl.state = .waiting →
    gone[m]? = some e → sl.postingStamp = some e.number →
    t.pwq.lossCount = gone.length - (m + 1) ∧
    ∃ r : Slot, t.slot j = some r ∧ r.state = .complete ∧ r.result = some .ok ∧ j ∉ t.drt.order ∧
      r.lossCount = min (s.pwq.lossCount + first + m) 65535 ∧
      (m + 1 = gone.length → r.dataStamp = t.notices.newest)) ∧
  ((∀ (j : SlotId) (sl : Slot), s.slot j = some sl → sl.req = .barrier → sl.state = .waiting →
      ∀ e ∈ gone, sl.postingStamp ≠ some e.number) →
    t.pwq.lossCount = min (s.pwq.lossCount + first + (gone.length - 1)) 65535)

/-- The command of a slot's transaction, by the slot's kind (R34, R35, R36, R51). -/
def CommandFor (req : DelayedReq) (cmd : Command) : Prop :=
  match req with
  | .confirmWrite n _ _ => cmd.kind = .wr ∧ cmd.target = .node n
  | .readRegs n _ _ => cmd.kind = .rd ∧ cmd.target = .node n
  | .readBlock n _ _ => cmd.kind = .rd ∧ cmd.target = .node n
  | .probeNode n => cmd.kind = .probe ∧ cmd.target = .node n
  | .barrier => False

/-- Slot i, whose record was sl, is COMPLETE with this status: off the order list, its gathered data and counts kept, its
stamp naming the newest notice, its discard deadline running unless DISCARD_TIME is 0, and with NOTIFY set its hint on the
Ready List or on TXD (R41, R43, R66). -/
def CompletedAs (s t : State) (i : SlotId) (sl : Slot) (st : ResultStatus) : Prop :=
  i ∉ t.drt.order ∧
  (sl.notify = true → i ∈ t.notices.ready ∨ ∃ o : Outgoing, t.link.tx = some o ∧ o.kind = .hint i) ∧
  ∃ r : Slot, t.slot i = some r ∧ r.state = .complete ∧ r.result = some st ∧ r.req = sl.req ∧ r.gap = none ∧
    r.bytesDelivered = sl.bytesDelivered ∧ r.bytesReceived = sl.bytesReceived ∧ r.fetchCursor = sl.fetchCursor ∧
    r.deliveryCursor = sl.deliveryCursor ∧ r.data = sl.data ∧ r.dataStamp = t.notices.newest ∧
    r.discard = (if s.params.discardTime = 0 then none else some s.params.discardTime)

/-- A READY head is not that of an ABSENT node (R16). -/
def HeadChecked (s : State) : Prop :=
  ∀ q : HeadedQueue, s.pwq.queue = some q → q.headState = .ready → s.headAbsent q.head = false

/-- The grant is released and the turnaround starts; the scheduler and then the arbiter decide (R81, R85, R169). -/
def released (u : State) : State := ({ u with engine := { txn := none, turnaround := some 20 } }.schedule).arbitrate

/-- A packet of the data from start on, with this many bytes remaining, stays inside one block of the packet size and
ends at the block's end or the data's (R9, R34, R35, R51). -/
def CutAt (cmd : Command) (size start remaining : Nat) : Prop :=
  cmd.regAddr.toNat = start ∧ 1 ≤ cmd.length ∧ cmd.length ≤ remaining ∧
    start / size = (start + cmd.length - 1) / size ∧ (cmd.length = remaining ∨ (start + cmd.length) % size = 0)

/-- The slot's node is ABSENT, and the slot is no PROBE_NODE (R32). -/
def nodeGone (s : State) (sl : Slot) : Bool :=
  match sl.req with
  | .confirmWrite n _ _ => (s.node n).presence == .absent
  | .readRegs n _ _ => (s.node n).presence == .absent
  | .readBlock n _ _ => (s.node n).presence == .absent
  | .probeNode _ => false
  | .barrier => false

/-- The slots the DRT looks at for its candidate while the engine is idle: the ACTIVE slot, then the WAITING slots that
are posting-clear, in no gap and no BARRIER, in the order of the delayed order list (R32, R75). -/
def slotsLookedAt (s : State) : List SlotId :=
  ((List.finRange 8).filter fun i => (s.slot i).any fun sl => sl.state == .active) ++
    s.drt.order.filter fun i => (s.slot i).any fun sl =>
      sl.state == .waiting && sl.postingStamp.isNone && sl.gap.isNone && sl.req != .barrier

/-- Candidate D: the first of them whose node is not ABSENT (R32, R75). -/
def slotOffered (s : State) : Option SlotId := (slotsLookedAt s).find? fun i => !(s.slot i).any (nodeGone s)

/-- Node n is a member of the attention set that a FETCH may go to: not ABSENT, and its fetch eligible time none
(R126, R127). -/
def FetchReady (s : State) (n : NodeId) : Prop :=
  (∃ m ∈ s.attn.members, m.node = n) ∧ (s.node n).presence ≠ .absent ∧ (s.node n).fetchEligible = none

/-- A SURVEY is offered: no member that is not ABSENT, SEG_ATTN asserted, and no holdoff (R126). -/
def SurveyReady (s : State) : Prop :=
  (∀ m ∈ s.attn.members, (s.node m.node).presence = .absent) ∧ s.segAttn = true ∧ s.attn.holdoff = none

/-- Candidate C is present: collect work is offered, and the Notice Queue holds 19 entries or fewer (R76, R126). -/
def CollectPresent (s : State) : Prop :=
  s.notices.queue.length ≤ 19 ∧ ((∃ n : NodeId, FetchReady s n) ∨ SurveyReady s)

/-- The place of a node in the search that starts just after the rotation pointer (R127). -/
def fetchRank (pointer : Option NodeId) (n : NodeId) : Nat :=
  match pointer with
  | none => n.val
  | some p => (n.val + 29 - p.val) % 30

/-- The numbers and payloads of the Notice Queue, oldest first (R144). -/
def contents (b : NoticeBlock) : List (Half × NoticePayload) := b.queue.map fun e => (e.number, e.payload)

/-- The head q is discarded for this reason, and with it the heads behind it whose nodes are ABSENT: each is counted, the
WRITE_LOST fault of the head is entered while there is room, and the slots that waited are released (R16, R17, R147). -/
def HeadDiscarded (s t : State) (q : HeadedQueue) (reason : LossReason) : Prop :=
  let k := absentRun t q.behind
  t.counters.postedLost = s.counters.postedLost + BitVec.ofNat 32 (k + 1) ∧ t.pwq.entries = q.behind.drop k ∧
    t.pwq.nextNumber = s.pwq.nextNumber ∧
    (s.notices.queue.length < 24 →
      (s.notices.next,
        NoticePayload.fault s.notices.lostFaults
          (.writeLost q.head.number q.head.originSeq q.head.target q.head.addr q.head.data.length q.head.delivered
            reason)) ∈ contents t.notices) ∧
    (PwqOk s.pwq → TableOk s → StampsReleased s t (q.head :: q.behind.take k) 1)

/-- The entries with every SENT one UNSENT (R155, R156). -/
def rewound (queue : List Notice) : List Notice := queue.map fun e => { e with state := .unsent }

end Sys2Proof.Safety
end

