-- ==== Sys2Proof/Certificates/Slice0/Obligations.lean ====
section
/-!
DEFINITION. The statements about the part, each a proposition of its own. Every row of the command table has a statement
whose conclusion is the next state its own effect gives.
-/

open Sys2Proof Sys2Proof.Machine Sys2Proof.Safety

/-! ### The step and the request formats -/

/-- A step takes the command at the front of the queue and runs it on the state with the queue's rest. -/
def Obligations.StepRunsFrontCommand : Prop :=
  ∀ (c : Instr) (rest : List Instr) (s : State),
    step { s with pending := c :: rest } = exec c { s with pending := rest }

/-- The payloads of R189 are read back to the operands they carry. -/
def Obligations.RequestPayloadsParse : Prop :=
  (∀ (n : NodeId) (a : Half) (d : List Byte), 1 ≤ d.length → d.length ≤ 64 → a.toNat + d.length ≤ 65536 →
    postWriteOperands (nodeByte n :: halfBytes a ++ d) = some (n, a, d)) ∧
  (∀ (a : Half) (d : List Byte), 1 ≤ d.length → d.length ≤ 32 → a.toNat + d.length ≤ 65536 →
    broadcastOperands (halfBytes a ++ d) = some (a, d)) ∧
  (∀ (n : NodeId) (f : Bool) (a : Half) (d : List Byte), 1 ≤ d.length → d.length ≤ 32 → a.toNat + d.length ≤ 65536 →
    confirmWriteOperands ([nodeByte n, flagByte f] ++ halfBytes a ++ d) = some (.confirmWrite n a d, f)) ∧
  (∀ (n : NodeId) (f : Bool) (a : Half) (k : Nat), 1 ≤ k → k ≤ 32 → a.toNat + k ≤ 65536 →
    readRegsOperands ([nodeByte n, flagByte f] ++ halfBytes a ++ [byte k]) = some (.readRegs n a k, f)) ∧
  (∀ (n : NodeId) (f : Bool) (a : Half) (k : Nat), 1 ≤ k → k ≤ 256 → a.toNat + k ≤ 65536 →
    readBlockOperands ([nodeByte n, flagByte f] ++ halfBytes a ++ numBytes k) = some (.readBlock n a k, f)) ∧
  (∀ (n : NodeId) (f : Bool), probeNodeOperands [nodeByte n, flagByte f] = some (.probeNode n, f)) ∧
  (∀ f : Bool, barrierOperands [flagByte f] = some (.barrier, f)) ∧
  (∀ i : SlotId, cancelOperands [slotByte i] = some i) ∧
  (∀ n : Half, ackOperands (halfBytes n) = some n) ∧
  (∀ (n : NodeId) (p : Bool) (z : PacketSize) (c : Bool),
    setNodeOperands [nodeByte n, flagByte p, byte z.bytes, flagByte c] = some (n, p, z, c)) ∧
  (∀ n : NodeId, getNodeOperands [nodeByte n] = some n) ∧
  (∀ (i : Byte) (v : Half), i ≠ 0 → setParamOperands (i :: halfBytes v) = some (i, v)) ∧
  (∀ i : Byte, i ≠ 0 → getParamOperands [i] = some i)

/-- The dispatcher's first two steps: a type that is no request type is answered BAD_TYPE, and a payload outside the table
of R189 is answered BAD_FIELD, for every request row. -/
def Obligations.InvalidRequestRefused : Prop :=
  ∀ (s : State) (seq : Byte) (payload : List Byte),
    (∀ type : Byte, requestTypes.contains type = false → Executes s seq type payload →
      exec (.unknownTypeRequest seq type payload) s = .next (answered s seq type (.refused .badType))) ∧
    (∀ row ∈ requestRows seq payload, fieldsOk row.2 payload = false → Executes s seq row.2 payload →
      exec row.1 s = .next (answered s seq row.2 (.refused .badField)))

/-- A request answered with a refusal, by whatever step, changes the refusal counter and the link alone (R168). -/
def Obligations.RefusalChangesOnlyTheCounter : Prop :=
  ∀ (s t : State) (seq type : Byte) (payload : List Byte) (c : Instr) (r : RefusalStatus),
    (c, type) ∈ requestRows seq payload ∨ c = .unknownTypeRequest seq type payload ∧ requestTypes.contains type = false →
    Executes s seq type payload → exec c s = .next t →
    t.link.store.getLast? = some { seq := seq, type := type, answer := .refused r } →
    SameBlocks s t ∧ t.counters = { s.counters with refusals := s.counters.refusals + 1 }

/-! ### Posted writes (R4 to R7) -/

/-- POST_WRITE to a postable node that is not ABSENT, with room: one entry at the tail, ACCEPTED with its number; in an
empty queue the scheduler decides. -/
def Obligations.PostWriteAccepted : Prop :=
  ∀ (s : State) (seq : Byte) (n : NodeId) (a : Half) (d : List Byte),
    1 ≤ d.length → d.length ≤ 64 → a.toNat + d.length ≤ 65536 →
    Executes s seq 0x01 (nodeByte n :: halfBytes a ++ d) → (s.node n).postable = true → (s.node n).presence ≠ .absent →
    s.pwq.entries.length < 16 → s.pwq.bytes + d.length ≤ 1024 →
    let e : Entry := { number := s.pwq.nextNumber, target := some n, addr := a, data := d, delivered := 0, attempts := 0,
                       originSeq := seq }
    let u : State := { s with pwq := s.pwq.append (some n) a d seq }
    u.pwq.entries = s.pwq.entries ++ [e] ∧ u.pwq.nextNumber = s.pwq.nextNumber + 1 ∧
      u.pwq.lossCount = s.pwq.lossCount ∧
      (s.pwq.queue = none →
        u.pwq.queue = some { head := e, headState := .ready, repeatPending := false, behind := [] } ∧
        exec (.postWrite seq (nodeByte n :: halfBytes a ++ d)) s =
          .next (answered u.schedule seq 0x01 (.accepted s.pwq.nextNumber))) ∧
      (∀ q : HeadedQueue, s.pwq.queue = some q → u.pwq.queue = some { q with behind := q.behind ++ [e] } ∧
        exec (.postWrite seq (nodeByte n :: halfBytes a ++ d)) s =
          .next (answered u seq 0x01 (.accepted s.pwq.nextNumber)))

/-- The refusals of a POST_WRITE: TOO_LONG at a node that is not postable, then NODE_ABSENT, then QUEUE_FULL. -/
def Obligations.PostWriteRefused : Prop :=
  ∀ (s : State) (seq : Byte) (n : NodeId) (a : Half) (d : List Byte),
    1 ≤ d.length → d.length ≤ 64 → a.toNat + d.length ≤ 65536 →
    Executes s seq 0x01 (nodeByte n :: halfBytes a ++ d) →
    ((s.node n).postable = false → 32 < d.length →
      exec (.postWrite seq (nodeByte n :: halfBytes a ++ d)) s =
        .next (answered s seq 0x01 (.refused .tooLong))) ∧
    ((s.node n).postable = true → (s.node n).presence = .absent →
      exec (.postWrite seq (nodeByte n :: halfBytes a ++ d)) s =
        .next (answered s seq 0x01 (.refused .nodeAbsent))) ∧
    ((s.node n).postable = true → (s.node n).presence ≠ .absent →
      16 ≤ s.pwq.entries.length ∨ 1024 < s.pwq.bytes + d.length →
      exec (.postWrite seq (nodeByte n :: halfBytes a ++ d)) s =
        .next (answered s seq 0x01 (.refused .queueFull)))

/-- A POST_WRITE of up to 32 bytes to a node that is not postable has the effect and the answer that a CONFIRM_WRITE with
NOTIFY clear has. -/
def Obligations.PostWriteHandedOver : Prop :=
  ∀ (n : NodeId) (a : Half) (d : List Byte), 1 ≤ d.length → d.length ≤ 32 → a.toNat + d.length ≤ 65536 →
    (∀ (s : State) (seq : Byte), Executes s seq 0x01 (nodeByte n :: halfBytes a ++ d) → (s.node n).postable = false →
      exec (.postWrite seq (nodeByte n :: halfBytes a ++ d)) s =
        .next (answered (s.takeDelayed (.confirmWrite n a d) false).1 seq 0x01
          (s.takeDelayed (.confirmWrite n a d) false).2)) ∧
    (∀ (s : State) (seq : Byte), Executes s seq 0x10 ([nodeByte n, 0] ++ halfBytes a ++ d) →
      exec (.confirmWrite seq ([nodeByte n, 0] ++ halfBytes a ++ d)) s =
        .next (answered (s.takeDelayed (.confirmWrite n a d) false).1 seq 0x10
          (s.takeDelayed (.confirmWrite n a d) false).2))

/-- BROADCAST_WRITE: an entry with node 0 at the tail while neither limit is met, QUEUE_FULL otherwise; no node record is
asked. -/
def Obligations.BroadcastWriteTaken : Prop :=
  ∀ (s : State) (seq : Byte) (a : Half) (d : List Byte),
    1 ≤ d.length → d.length ≤ 32 → a.toNat + d.length ≤ 65536 → Executes s seq 0x02 (halfBytes a ++ d) →
    let e : Entry := { number := s.pwq.nextNumber, target := none, addr := a, data := d, delivered := 0, attempts := 0,
                       originSeq := seq }
    let u : State := { s with pwq := s.pwq.append none a d seq }
    u.pwq.entries = s.pwq.entries ++ [e] ∧ u.pwq.nextNumber = s.pwq.nextNumber + 1 ∧
      (s.pwq.entries.length < 16 → s.pwq.bytes + d.length ≤ 1024 →
        exec (.broadcastWrite seq (halfBytes a ++ d)) s =
          .next (answered (if s.pwq.queue = none then u.schedule else u) seq 0x02 (.accepted s.pwq.nextNumber))) ∧
      (16 ≤ s.pwq.entries.length ∨ 1024 < s.pwq.bytes + d.length →
        exec (.broadcastWrite seq (halfBytes a ++ d)) s = .next (answered s seq 0x02 (.refused .queueFull)))

/-! ### Delayed requests (R25 to R44, R55, R56, R69) -/

/-- CONFIRM_WRITE, READ_REGS, READ_BLOCK and PROBE_NODE with no live slot of their key, a node that does not refuse them
and a FREE slot: the lowest FREE slot is filled, joins the list at its tail, and the answer is DEFERRED with the reason
of R29; the scheduler decides. -/
def Obligations.NewDelayedRequestWaits : Prop :=
  ∀ (s : State) (seq : Byte) (payload : List Byte) (req : DelayedReq) (notify : Bool) (i : SlotId),
    ∀ row ∈ nodeRequestRows seq payload, row.2.2 = some (req, notify) → Executes s seq row.2.1 payload →
    NoLiveMatch s req → s.reqAbsent req = false → LowestFree s i →
    let record : Slot :=
      { req := req, notify := notify, state := .waiting, postingStamp := s.pwq.newest, attempts := 0,
        repeatPending := false, gap := none, bytesDelivered := 0, bytesReceived := 0, data := [], fetchCursor := 0,
        deliveryCursor := 0, lossCount := 0, result := none, dataStamp := .absent, discard := none }
    let u : State := { s with drt := { slots := s.drt.slots.set i (some record), order := s.drt.order ++ [i] } }
    exec row.1 s =
      .next (answered u.schedule seq row.2.1
        (.deferred i .waiting
          (if s.pwq.queue.isSome then .posted else if s.seg.state = .running then .queued else .segment)))

/-- With no live slot of its key, a delayed request is refused NODE_ABSENT when its node is ABSENT (not a PROBE_NODE, not
a BARRIER), and TABLE_FULL when no slot is FREE. -/
def Obligations.DelayedRequestRefused : Prop :=
  ∀ (s : State) (seq : Byte) (payload : List Byte) (req : DelayedReq) (notify : Bool),
    ∀ row ∈ delayedRows seq payload, row.2.2 = some (req, notify) → Executes s seq row.2.1 payload →
    NoLiveMatch s req →
    (∀ n : NodeId, req.node? = some n → req ≠ .probeNode n → (s.node n).presence = .absent →
      exec row.1 s = .next (answered s seq row.2.1 (.refused .nodeAbsent))) ∧
    ((∀ n : NodeId, req.node? = some n → req = .probeNode n ∨ (s.node n).presence ≠ .absent) →
      (∀ j : SlotId, (s.slot j).isSome = true) →
      exec row.1 s = .next (answered s seq row.2.1 (.refused .tableFull)))

/-- BARRIER into a FREE slot: behind posted writes it waits with reason POSTED; with an empty queue it completes at once,
reads and clears the posted-loss counter, and is answered RESULT and freed when no notice holds it, otherwise kept
COMPLETE and answered DEFERRED, ORDER. -/
def Obligations.BarrierTaken : Prop :=
  ∀ (s : State) (seq : Byte) (notify : Bool) (i : SlotId),
    Executes s seq 0x14 [flagByte notify] → NoLiveMatch s .barrier → LowestFree s i →
    ∃ (u : State) (a : Answer), exec (.barrier seq [flagByte notify]) s = .next (answered u seq 0x14 a) ∧
      (∀ j : SlotId, j ≠ i → u.slot j = s.slot j) ∧ u.nodes = s.nodes ∧ u.engine = s.engine ∧ u.seg = s.seg ∧
      u.notices.queue = s.notices.queue ∧ u.pwq.queue = s.pwq.queue ∧ u.sched = s.sched ∧ u.attn = s.attn ∧
      (∀ q : HeadedQueue, s.pwq.queue = some q →
        a = .deferred i .waiting .posted ∧ u.drt.order = s.drt.order ++ [i] ∧ u.pwq = s.pwq ∧ u.counters = s.counters ∧
        ∃ sl : Slot, u.slot i = some sl ∧ sl.req = .barrier ∧ sl.state = .waiting ∧ sl.notify = notify ∧
          sl.postingStamp = s.pwq.newest) ∧
      (s.pwq.queue = none →
        u.pwq.lossCount = 0 ∧ u.counters = { s.counters with delayedCompleted := s.counters.delayedCompleted + 1 } ∧
        (s.notices.queue = [] → a = .result i (some .ok) (.barrier s.pwq.lossCount) ∧ u.slot i = none) ∧
        (∀ e : Notice, s.notices.queue.getLast? = some e →
          a = .deferred i .complete .order ∧
          ∃ sl : Slot, u.slot i = some sl ∧ sl.req = .barrier ∧ sl.state = .complete ∧ sl.result = some .ok ∧
            sl.lossCount = s.pwq.lossCount ∧ sl.dataStamp = .held e.number ∧ i ∉ u.drt.order ∧
            sl.discard = (if s.params.discardTime = 0 then none else some s.params.discardTime) ∧
            (i ∈ u.notices.ready ↔ notify = true ∨ i ∈ s.notices.ready)))

/-- A repeat of a WAITING or ACTIVE slot with nothing to hand over is answered DEFERRED with the reason of R29, and the
table is not changed. -/
def Obligations.RepeatOfRunningSlotDeferred : Prop :=
  ∀ (s : State) (seq : Byte) (payload : List Byte) (req : DelayedReq) (notify : Bool) (i : SlotId) (sl : Slot),
    ∀ row ∈ delayedRows seq payload, row.2.2 = some (req, notify) → Executes s seq row.2.1 payload →
    KeysDistinct s.drt → s.slot i = some sl → sl.req = req →
    (req.kind = .readBlock → sl.fetchCursor ≤ sl.deliveryCursor) →
    (sl.state = .waiting →
      exec row.1 s = .next (answered s seq row.2.1 (.deferred i .waiting
        (if sl.postingStamp ≠ none then .posted
          else if s.seg.state ≠ .running then .segment
          else if sl.gap ≠ none then .gap
          else .queued)))) ∧
    (∀ x : Transaction, sl.state = .active → s.engine.txn = some x → x.requester = .d i →
      exec row.1 s = .next (answered s seq row.2.1 (.deferred i .active .inFlight))) ∧
    (sl.state = .active → (∀ x : Transaction, s.engine.txn = some x → x.requester ≠ .d i) →
      exec row.1 s = .next (answered s seq row.2.1 (.deferred i .active .queued)))

/-- A repeat of a COMPLETE slot: RESULT with what the kind carries, and the slot is FREE, when its data notice stamp is
none; DEFERRED with reason ORDER, and nothing changed, while the stamp names a notice (R28, R30, R58, R69). -/
def Obligations.CompleteSlotCollected : Prop :=
  ∀ (s : State) (seq : Byte) (payload : List Byte) (req : DelayedReq) (notify : Bool) (i : SlotId) (sl : Slot),
    ∀ row ∈ delayedRows seq payload, row.2.2 = some (req, notify) → Executes s seq row.2.1 payload →
    KeysDistinct s.drt → s.slot i = some sl → sl.req = req → sl.state = .complete →
    (sl.dataStamp = .clear →
      exec row.1 s = .next (answered (slotFreed s i) seq row.2.1 (.result i sl.result
        (match req with
          | .confirmWrite _ _ _ => .confirmWrite sl.bytesDelivered
          | .readRegs _ _ _ => .readRegs sl.bytesReceived sl.data
          | .readBlock _ _ _ => .readBlock sl.deliveryCursor ((sl.data.take sl.fetchCursor).drop sl.deliveryCursor)
          | .probeNode _ => .probeNode (if sl.result = some .ok then some sl.data else none)
          | .barrier => .barrier sl.lossCount)))) ∧
    (∀ k : Half, sl.dataStamp = .held k →
      exec row.1 s = .next (answered s seq row.2.1 (.deferred i .complete .order)))

/-- A repeat of a WAITING or ACTIVE READ_BLOCK slot that holds undelivered bytes: PARTIAL with all of them and the
delivery cursor raised when no notice holds them, DEFERRED with reason ORDER while one does. -/
def Obligations.PartialHandsOverBytes : Prop :=
  ∀ (s : State) (seq : Byte) (payload : List Byte) (n : NodeId) (a : Half) (k : Nat) (notify : Bool) (i : SlotId)
    (sl : Slot),
    readBlockOperands payload = some (.readBlock n a k, notify) → Executes s seq 0x12 payload →
    KeysDistinct s.drt → s.slot i = some sl → sl.req = .readBlock n a k → sl.state = .waiting ∨ sl.state = .active →
    sl.deliveryCursor < sl.fetchCursor → sl.data.length = sl.fetchCursor →
    (sl.dataStamp = .clear →
      exec (.readBlock seq payload) s =
        .next (answered
          { s with drt := { s.drt with slots := s.drt.slots.set i (some { sl with deliveryCursor := sl.fetchCursor }) } }
          seq 0x12 (.partialData i sl.state sl.deliveryCursor (sl.data.drop sl.deliveryCursor)))) ∧
    (∀ m : Half, sl.dataStamp = .held m →
      exec (.readBlock seq payload) s = .next (answered s seq 0x12 (.deferred i sl.state .order)))

/-- CANCEL_SLOT by the state of the slot (R44). That the data and the bytes delivered of a slot cancelled in flight are
dropped at once, when it becomes ORPHANED, is the model's reading (notes/assumptions/24.md; R60 for a READ_BLOCK). -/
def Obligations.CancelSlotFrees : Prop :=
  ∀ (s : State) (seq : Byte) (i : SlotId), Executes s seq 0x15 [slotByte i] →
    (s.slot i = none →
      exec (.cancelSlot seq [slotByte i]) s = .next (answered s seq 0x15 (.refused .noSuchSlot))) ∧
    (∀ sl : Slot, s.slot i = some sl →
      (sl.state = .orphaned →
        exec (.cancelSlot seq [slotByte i]) s = .next (answered s seq 0x15 (.refused .noSuchSlot))) ∧
      (sl.state = .waiting ∨ sl.state = .complete ∨
          sl.state = .active ∧ (∀ x : Transaction, s.engine.txn = some x → x.requester ≠ .d i) →
        exec (.cancelSlot seq [slotByte i]) s = .next (answered (slotFreed s i) seq 0x15 (.doneCancel i))) ∧
      (∀ x : Transaction, sl.state = .active → s.engine.txn = some x → x.requester = .d i →
        ∃ r : Slot, r.state = .orphaned ∧ r.req = sl.req ∧ r.data = [] ∧ r.bytesDelivered = 0 ∧
          exec (.cancelSlot seq [slotByte i]) s =
            .next (answered { s with drt := { s.drt with slots := s.drt.slots.set i (some r) } } seq 0x15
              (.doneCancel i))))

/-! ### Local requests (R118, R120, R152, R153, R176, R179, R182 to R186) -/

/-- NOTICE_ACK: the entries through a SENT one leave, their data notice stamps fall to none and the resend deadline
follows the SENT entries left; an UNSENT entry or a number not yet issued is refused ACK_RANGE; an older number is DONE
with no effect (R68, R152, R153). That the scheduler decides exactly when the occupancy falls from above 19 to 19 or less
is the model's reading of R76 and R77 (notes/assumptions/7.md). -/
def Obligations.NoticeAckTable : Prop :=
  ∀ (s : State) (seq : Byte) (n : Half), Executes s seq 0x20 (halfBytes n) → NoticesOk s.notices →
    (∀ (before after : List Notice) (e : Notice), s.notices.queue = before ++ e :: after → e.number = n →
      (e.state = .unsent →
        exec (.noticeAck seq (halfBytes n)) s = .next (answered s seq 0x20 (.refused .ackRange))) ∧
      (e.state = .sent →
        let u : State := { s with
          notices := { s.notices with
            queue := after
            resend := if after.any (fun x => x.state == .sent) then some s.params.resendTime else none }
          drt := { s.drt with slots := s.drt.slots.map (Option.map fun sl =>
            if (before ++ [e]).any (fun x => decide (sl.dataStamp = .held x.number)) then { sl with dataStamp := .clear }
            else sl) } }
        exec (.noticeAck seq (halfBytes n)) s =
          .next (answered (if 19 < s.notices.queue.length ∧ after.length ≤ 19 then u.schedule else u) seq 0x20
            (.doneAck (before.length + 1) after.length)))) ∧
    ((∀ e ∈ s.notices.queue, e.number ≠ n) →
      exec (.noticeAck seq (halfBytes n)) s =
        .next (answered s seq 0x20
          (if 1 ≤ (s.notices.next - n).toNat ∧ (s.notices.next - n).toNat ≤ 32768 then
            .doneAck 0 s.notices.queue.length
          else .refused .ackRange)))

/-- SET_NODE writes postable and packet size, and with clear-absence the presence and the silence count; the answer
carries the record after the change (R118). -/
def Obligations.SetNodeWrites : Prop :=
  ∀ (s : State) (seq : Byte) (n : NodeId) (postable clearAbsence : Bool) (size : PacketSize),
    let p : List Byte := [nodeByte n, flagByte postable, byte size.bytes, flagByte clearAbsence]
    let r : NodeRecord :=
      if clearAbsence then
        { s.node n with postable := postable, packetSize := size, presence := .unknown, silence := 0 }
      else { s.node n with postable := postable, packetSize := size }
    Executes s seq 0x30 p →
      exec (.setNode seq p) s = .next (answered { s with nodes := s.nodes.set n r } seq 0x30 (.doneNode n r))

/-- GET_NODE and GET_STATUS are answered DONE with the record and with the status of R176, and change no state. -/
def Obligations.ReadRequestsAnswer : Prop :=
  (∀ (s : State) (seq : Byte) (n : NodeId), Executes s seq 0x31 [nodeByte n] →
    exec (.getNode seq [nodeByte n]) s = .next (answered s seq 0x31 (.doneNode n (s.node n)))) ∧
  (∀ (s : State) (seq : Byte), Executes s seq 0x34 [] →
    exec (.getStatus seq []) s =
      .next (answered s seq 0x34 (.doneStatus
        { pwqEntries := s.pwq.entries.length
          pwqBytes := s.pwq.bytes
          headState := s.pwq.queue.map (·.headState)
          postedLoss := s.pwq.lossCount
          slots := (List.finRange 8).map fun i => (s.slot i).map fun sl => (sl.state, sl.req.kind)
          segState := s.seg.state
          noticeCount := s.notices.queue.length
          sentCount := (s.notices.queue.filter fun e => e.state == .sent).length
          nextNotice := s.notices.next
          lostFaults := s.notices.lostFaults
          attentionSize := s.attn.members.length
          counters := s.counters })))

/-- GET_PARAM: BAD_FIELD for a payload that is not one id of 1..255, BAD_PARAM for an id of 14..255, otherwise DONE with
the id, the value stored and the default (R183). -/
def Obligations.GetParamReads : Prop :=
  ∀ (s : State) (seq : Byte) (payload : List Byte), Executes s seq 0x33 payload →
    (payload.length ≠ 1 ∨ payload = [0] →
      exec (.getParam seq payload) s = .next (answered s seq 0x33 (.refused .badField))) ∧
    (∀ b : Byte, payload = [b] → 14 ≤ b.toNat →
      exec (.getParam seq payload) s = .next (answered s seq 0x33 (.refused .badParam))) ∧
    (∀ p : ParamId, payload = [p.code] →
      exec (.getParam seq payload) s =
        .next (answered s seq 0x33 (.doneGetParam p (s.params.get p) (Params.default.get p))))

/-- IDENTIFY: refused BAD_FIELD with a payload, otherwise DONE with the fixed values, in every state (R186). -/
def Obligations.IdentifyAnswers : Prop :=
  ∀ (s : State) (seq : Byte) (payload : List Byte), Executes s seq 0x35 payload →
    (payload ≠ [] → exec (.identify seq payload) s = .next (answered s seq 0x35 (.refused .badField))) ∧
    (payload = [] → exec (.identify seq payload) s = .next (answered s seq 0x35 .doneIdentify)) ∧
    Answer.payload .doneIdentify =
      [0x04, 0x55, 0x57, 0x04, 0x16, 0x01, 0x10, 0x04, 0x00, 0x08, 0x18, 0x1E, 0x04, 0x08]

/-- SET_PARAM stores a value in the parameter's range and answers with the value replaced; an id of 14..255 or a value
outside the range, which DISCARD_TIME widens by 0, is refused BAD_PARAM (R181, R182). -/
def Obligations.SetParamStores : Prop :=
  ∀ (s : State) (seq b : Byte) (v : Half), b ≠ 0 → Executes s seq 0x32 (b :: halfBytes v) →
    (14 ≤ b.toNat →
      exec (.setParam seq (b :: halfBytes v)) s = .next (answered s seq 0x32 (.refused .badParam))) ∧
    (∀ row ∈ paramRows, b = row.2.1 →
      let inRange : Prop := row.2.2.1 ≤ v.toNat ∧ v.toNat ≤ row.2.2.2 ∨ row.1 = .discardTime ∧ v = 0
      (¬inRange →
        exec (.setParam seq (b :: halfBytes v)) s = .next (answered s seq 0x32 (.refused .badParam))) ∧
      (inRange →
        ∃ q : Params, q.get row.1 = v.toNat ∧ (∀ o : ParamId, o ≠ row.1 → q.get o = s.params.get o) ∧
          exec (.setParam seq (b :: halfBytes v)) s =
            .next (answered { s with params := q } seq 0x32 (.doneSetParam row.1 v.toNat (s.params.get row.1)))))

/-- SEGMENT_RESET enters RESETTING from RUNNING and SETTLING, and restarts the hold deadline in RESETTING; the answer
carries the state in which it was taken (R106, R185). -/
def Obligations.SegmentResetTaken : Prop :=
  ∀ (s : State) (seq : Byte), Executes s seq 0x3E [] →
    (s.seg.state ≠ .resetting →
      exec (.segmentReset seq []) s =
        .next (answered (s.enterResetting .request) seq 0x3E (.doneSegmentReset s.seg.state))) ∧
    (s.seg.state = .resetting →
      exec (.segmentReset seq []) s =
        .next (answered { s with seg := { s.seg with hold := some s.params.segResetHold } } seq 0x3E
          (.doneSegmentReset .resetting)))

/-- The entry into RESETTING, block by block: Segment Control, engine and scheduler, the Posted Write Queue under one
summary fault, entered or counted as lost, the Node Table, the Attention Unit, and the table's slots, whose stamps name
the newest notice then. A BARRIER that waits reads the posted-loss count with the entries just discarded, and the counter
starts from 0. That no bus turnaround runs after the entry is the model's reading (notes/assumptions/22.md). -/
def Obligations.ResettingEntryResetsBlocks : Prop :=
  ∀ (s : State) (cause : RestartCause), OrderOk s.drt →
    let u := s.enterResetting cause
    u.seg = { s.seg with state := .resetting, hold := some s.params.segResetHold, settle := none, cause := cause } ∧
    u.segRst = true ∧ u.engine = { txn := none, turnaround := none } ∧ u.sched = { delayedShare := 0, collectShare := 0 } ∧
    u.attn = { members := [], pointer := none, holdoff := none } ∧
    (∀ n : NodeId, u.node n =
      { presence := .unknown, silence := 0, postable := (s.node n).postable, packetSize := (s.node n).packetSize,
        identity := none, refuseReason := none, fetchToggle := false, fetchEligible := none }) ∧
    u.pwq.queue = none ∧ u.pwq.nextNumber = s.pwq.nextNumber ∧
    u.counters.postedLost = s.counters.postedLost + BitVec.ofNat 32 s.pwq.entries.length ∧
    ((∀ (i : SlotId) (sl : Slot), s.slot i = some sl → sl.state = .waiting → sl.req ≠ .barrier) →
      u.pwq.lossCount = (if s.pwq.queue = none then s.pwq.lossCount
        else min (s.pwq.lossCount + s.pwq.entries.length) 65535)) ∧
    (∀ (i : SlotId) (sl : Slot), KeysDistinct s.drt → s.slot i = some sl → sl.state = .waiting → sl.req = .barrier →
      u.pwq.lossCount = 0 ∧ ∃ r : Slot, u.slot i = some r ∧
        r.lossCount = (if s.pwq.queue = none then s.pwq.lossCount
          else min (s.pwq.lossCount + s.pwq.entries.length) 65535)) ∧
    (s.pwq.queue = none → u.notices.queue = s.notices.queue ∧ u.notices.lostFaults = s.notices.lostFaults) ∧
    (s.pwq.queue ≠ none → 24 ≤ s.notices.queue.length →
      u.notices.queue = s.notices.queue ∧ u.notices.next = s.notices.next ∧
        u.notices.lostFaults = min (s.notices.lostFaults + 1) 255) ∧
    (∀ h : HeadedQueue, s.pwq.queue = some h → s.notices.queue.length < 24 →
      u.notices.queue = s.notices.queue ++
        [{ number := s.notices.next
           payload := .fault s.notices.lostFaults (.writeLostSummary s.pwq.entries.length h.head.number
             ((h.behind.getLast?.map fun e => e.number).getD h.head.number))
           state := .unsent, sendCount := 0 }] ∧
      u.notices.next = s.notices.next + 1 ∧ u.notices.lostFaults = 0) ∧
    u.drt.order = [] ∧ u.params = s.params ∧ u.link = s.link ∧ u.segAttn = s.segAttn ∧
    (∀ i : SlotId, s.slot i = none → u.slot i = none) ∧
    (∀ (i : SlotId) (sl : Slot), s.slot i = some sl →
      (sl.state = .orphaned → u.slot i = none) ∧
      (sl.state = .complete → u.slot i = some { sl with postingStamp := none }) ∧
      (sl.state = .waiting ∨ sl.state = .active →
        ∃ r : Slot, u.slot i = some r ∧ r.state = .complete ∧ r.req = sl.req ∧ r.data = sl.data ∧
          r.fetchCursor = sl.fetchCursor ∧ r.deliveryCursor = sl.deliveryCursor ∧
          r.bytesDelivered = sl.bytesDelivered ∧ r.gap = none ∧ r.dataStamp = u.notices.newest ∧
          r.discard = (if s.params.discardTime = 0 then none else some s.params.discardTime) ∧
          (sl.notify = true → i ∈ u.notices.ready) ∧
          r.result = some (if sl.state = .waiting ∧ sl.req = .barrier then .ok else .segmentReset)))

/-- PART_RESET is answered DONE at once and stops the dispatcher; a stopped dispatcher executes no frame, whichever
request row comes (R168, R179). -/
def Obligations.PartResetStopsDispatcher : Prop :=
  (∀ (s : State) (seq : Byte), Executes s seq 0x3F [] →
    exec (.partReset seq []) s =
      .next (answered { s with link := { s.link with stopped := true } } seq 0x3F .donePartReset)) ∧
  (∀ (s : State) (seq type : Byte) (payload : List Byte), s.held = none → s.link.stopped = true →
    (∀ row ∈ requestRows seq payload, exec row.1 s = .next s.arbitrate) ∧
    exec (.unknownTypeRequest seq type payload) s = .next s.arbitrate ∧
    exec (.replay seq type payload) s = .next s.arbitrate)

/-! ### The host link (R161 to R173) -/

/-- A frame whose sequence is stored is answered from the store and not executed: its place takes the stored answer, the
replay counter rises, and the store keeps its order (R166). -/
def Obligations.ReplayAnswersFromStore : Prop :=
  ∀ (s : State) (seq type : Byte) (payload : List Byte) (a : StoredAnswer) (before after : List Place),
    s.held = none → s.link.stopped = false → s.link.stored seq = some a →
    s.link.places = before ++ { frame := { seq := seq, type := type, payload := payload }, state := .waiting } :: after →
    (∀ p ∈ before, p.state ≠ .waiting) →
    let u : State := { s with
      link := { s.link with
        places := before ++
          { frame := { seq := seq, type := type, payload := payload }, state := .answered a } :: after }
      counters := { s.counters with replays := s.counters.replays + 1 } }
    exec (.replay seq type payload) s = .next u.arbitrate ∧
      ∀ row ∈ requestRows seq payload, row.2 = type → exec row.1 s = .next u.arbitrate

/-- What the end of an executed request does: the answer joins the store, of which the oldest of eight leaves, and the
oldest WAITING place holds it; a refusal is counted; the arbiter may take HELLO, LINK_NAK or the oldest answer, and
touches no other block (R166, R167, R169, R170). -/
def Obligations.AnswerStoredAndPlaced : Prop :=
  ∀ (s : State) (seq type : Byte) (a : Answer) (before after : List Place) (f : Frame),
    s.held = none → s.link.store.length ≤ 8 → s.link.places = before ++ { frame := f, state := .waiting } :: after →
    (∀ p ∈ before, p.state ≠ .waiting) →
    let x : StoredAnswer := { seq := seq, type := type, answer := a }
    let places : List Place := before ++ { frame := f, state := .answered x } :: after
    let t := answered s seq type a
    SameBlocks s t ∧
    t.link.store = (if s.link.store.length = 8 then s.link.store.drop 1 else s.link.store) ++ [x] ∧
    (∀ r : RefusalStatus, a = .refused r →
      t.counters = { s.counters with refusals := s.counters.refusals + 1 }) ∧
    ((∀ r : RefusalStatus, a ≠ .refused r) → t.counters = s.counters) ∧
    t.link.framer = s.link.framer ∧ t.link.newestPlaced = s.link.newestPlaced ∧
    t.link.helloOffered = s.link.helloOffered ∧ t.link.stopped = s.link.stopped ∧
    t.link.resetCause = s.link.resetCause ∧ t.link.lspd = s.link.lspd ∧
    (s.link.tx ≠ none → t.link.tx = s.link.tx ∧ t.link.nakPending = s.link.nakPending ∧ t.link.places = places) ∧
    (s.link.tx = none → s.link.helloOffered = true ∨ s.link.nakPending = true →
      t.link.tx ≠ none ∧ t.link.places = places) ∧
    (s.link.tx = none → s.link.helloOffered = false → s.link.nakPending = false →
      (∀ p ∈ before, ∃ y : StoredAnswer, p.state = .sending y) →
      t.link.tx = some { kind := .answer, bytes := frameBytes seq type a.payload } ∧
      t.link.places = before ++ { frame := f, state := .sending x } :: after)

/-- The outbound arbiter's preference: HELLO, LINK_NAK, the oldest answer, the notice on offer, the lowest hint, and
nothing while a frame is being sent (R150, R159, R163, R169, R170, R180). The first hint of the Ready List is the lowest,
since NoticeQueueFormKept keeps the list ascending, which is the model's choice (notes/assumptions/18.md). -/
def Obligations.ArbiterPreference : Prop :=
  ∀ s : State, s.held = none →
    (s.link.tx ≠ none → s.arbitrate = s) ∧
    (s.link.tx = none → s.link.helloOffered = true →
      s.arbitrate = { s with link := { s.link with
        tx := some { kind := .hello, bytes := frameBytes 0 0x83 [s.link.resetCause.code, s.link.lspd.zeroExtend 8, 1] } } }) ∧
    (s.link.tx = none → s.link.helloOffered = false → s.link.nakPending = true →
      s.arbitrate = { s with link := { s.link with
        nakPending := false
        tx := some { kind := .linkNak
                     bytes := frameBytes 0 0x82 (match s.link.newestPlaced with
                       | some b => [1, b]
                       | none => [0, 0]) } } }) ∧
    (s.link.tx = none → s.link.helloOffered = false → s.link.nakPending = false →
      (∀ (before after : List Place) (f : Frame) (a : StoredAnswer),
        s.link.places = before ++ { frame := f, state := .answered a } :: after →
        (∀ p ∈ before, ∀ b : StoredAnswer, p.state ≠ .answered b) →
        s.arbitrate = { s with link := { s.link with
          places := before ++ { frame := f, state := .sending a } :: after
          tx := some { kind := .answer, bytes := frameBytes a.seq a.type a.answer.payload } } }) ∧
      ((∀ p ∈ s.link.places, ∀ b : StoredAnswer, p.state ≠ .answered b) →
        (∀ (before after : List Notice) (e : Notice), s.notices.queue = before ++ e :: after → e.state = .unsent →
          (∀ x ∈ before, x.state = .sent) → s.notices.sentCount < s.params.noticeWindow →
          let e' : Notice := { e with state := .sent, sendCount := min (e.sendCount + 1) 255 }
          s.arbitrate = { s with
            notices := { s.notices with
              queue := before ++ e' :: after
              resend := some (s.notices.resend.getD s.params.resendTime) }
            link := { s.link with
              tx := some { kind := .notice e.number, bytes := frameBytes 0 0x80 e'.framePayload } } }) ∧
        ((∀ e ∈ s.notices.queue, e.state = .sent) ∨ s.params.noticeWindow ≤ s.notices.sentCount →
          (s.notices.ready = [] → s.arbitrate = s) ∧
          (∀ (i : SlotId) (rest : List SlotId) (sl : Slot), s.notices.ready = i :: rest → s.slot i = some sl →
            s.arbitrate = { s with
              notices := { s.notices with ready := s.notices.ready.filter (· != i) }
              link := { s.link with tx := some { kind := .hint i, bytes := frameBytes 0 0x81 (hintPayload i sl) } } }))))

/-- Every frame of R187, whatever its sequence, type and payload, is found good by a framer in HUNT: placed WAITING while
a place is free, discarded with a LINK_OVERRUN fault when all four are taken (R161, R164, R165, R187, R194). -/
def Obligations.FrameReceivedPlaced : Prop :=
  ∀ (s : State) (f : Frame), s.held = none → s.link.framer = .hunt → f.payload.length ≤ 280 →
    (s.link.places.length < 4 →
      exec (.frameReceived (frameBytes f.seq f.type f.payload)) s =
        .next (State.arbitrate { s with link := { s.link with
          newestPlaced := some f.seq
          places := s.link.places ++ [{ frame := f, state := .waiting }] } })) ∧
    (4 ≤ s.link.places.length →
      exec (.frameReceived (frameBytes f.seq f.type f.payload)) s =
        .next (State.arbitrate { s with
          counters := { s.counters with overruns := s.counters.overruns + 1 }
          notices := s.notices.enterFault (.linkOverrun f.seq) }))

/-- The framer's faults and its start: a wrong CRC, a length outside 2..282, or a gap inside a frame each count one bad
frame, make LINK_NAK pending and return to HUNT; a gap in HUNT is none; a character A5h in HUNT leads to LENGTH
(R161, R162). -/
def Obligations.BadFrameRaisesNak : Prop :=
  ∀ s : State, s.held = none →
    let bad : State := State.arbitrate { s with
      counters := { s.counters with badFrames := s.counters.badFrames + 1 }
      link := { s.link with framer := .hunt, nakPending := true } }
    (s.link.framer = .hunt →
      (∀ (seq type : Byte) (payload : List Byte) (crc : Half), payload.length ≤ 280 →
        crc ≠ hostCrc (frameCovered seq type payload) →
        exec (.badFrame (0xA5 :: frameCovered seq type payload ++ halfBytes crc)) s = .next bad) ∧
      (∀ len : Half, len.toNat < 2 ∨ 282 < len.toNat → exec (.badFrame (0xA5 :: halfBytes len)) s = .next bad) ∧
      exec .frameGapTimeout s = .next s.arbitrate ∧
      exec .frameStartCharacter s =
        .next (State.arbitrate { s with link := { s.link with framer := .length [] } })) ∧
    (s.link.framer ≠ .hunt → ∃ t : State, exec .frameGapTimeout s = .next t ∧ t.link.framer = .hunt ∧
      t.counters = { s.counters with badFrames := s.counters.badFrames + 1 } ∧ t.drt = s.drt ∧ t.pwq = s.pwq ∧
      (s.link.tx ≠ none → t.link.nakPending = true ∧ t.link.tx = s.link.tx) ∧
      (s.link.tx = none → s.link.helloOffered = false →
        ∃ bytes : List Byte, t.link.tx = some { kind := .linkNak, bytes := bytes }))

/-- BREAK: the link reset, with SENT notices rewound and the other blocks untouched; with a PART_RESET taken and not yet
fully answered, the part reset instead (R171, R172, R173). The model's choices: the character and the gap of the low
period are inside the BREAK (notes/assumptions/11.md), and a part reset keeps the SEG_ATTN level and the waiting commands
(notes/assumptions/23.md). -/
def Obligations.BreakResetsLink : Prop :=
  ∀ (s : State) (lspd : BitVec 2), s.held = none →
    (s.link.stopped = false →
      ∃ u : State, exec (.lineBreak lspd) s = .next u.arbitrate ∧
        u.link = { s.link with framer := .hunt, newestPlaced := none, places := [], store := [], nakPending := false,
                               tx := none } ∧
        (∀ e ∈ u.notices.queue, e.state = .unsent) ∧ u.notices.resend = none ∧
        u.pwq = s.pwq ∧ u.drt = s.drt ∧ u.sched = s.sched ∧ u.engine = s.engine ∧ u.seg = s.seg ∧ u.segRst = s.segRst ∧
        u.nodes = s.nodes ∧ u.attn = s.attn ∧ u.params = s.params ∧
        (s.link.framer = .hunt →
          u.counters = s.counters ∧ u.notices = { s.notices with queue := rewound s.notices.queue, resend := none })) ∧
    (s.link.stopped = true →
      exec (.lineBreak lspd) s = .next (State.afterPartReset .request lspd s.segAttn s.pending).arbitrate)

/-- FRAME_TRANSMITTED: after HELLO it is no longer on offer; after an answer its place is empty, or the part reset takes
place if it answered a PART_RESET; the transmitter is idle and the arbiter decides (R170, R179). That a part reset keeps
the SEG_ATTN level and the waiting commands is the model's choice (notes/assumptions/23.md). -/
def Obligations.FrameTransmittedFreesLine : Prop :=
  ∀ (s : State) (lspd : BitVec 2) (o : Outgoing), s.held = none → s.link.tx = some o →
    (o.kind = .hello →
      exec (.frameTransmitted lspd) s =
        .next (State.arbitrate { s with link := { s.link with tx := none, helloOffered := false } })) ∧
    (o.kind = .linkNak ∨ (∃ k : Half, o.kind = .notice k) ∨ (∃ i : SlotId, o.kind = .hint i) →
      exec (.frameTransmitted lspd) s = .next (State.arbitrate { s with link := { s.link with tx := none } })) ∧
    (∀ (before after : List Place) (f : Frame) (a : StoredAnswer), o.kind = .answer →
      s.link.places = before ++ { frame := f, state := .sending a } :: after →
      (∀ p ∈ before ++ after, ∀ b : StoredAnswer, p.state ≠ .sending b) →
      (a.answer ≠ .donePartReset →
        exec (.frameTransmitted lspd) s =
          .next (State.arbitrate { s with link := { s.link with tx := none, places := before ++ after } })) ∧
      (a.answer = .donePartReset →
        exec (.frameTransmitted lspd) s =
          .next (State.afterPartReset .request lspd s.segAttn s.pending).arbitrate))

/-! ### Part reset and segment states (R102 to R106, R177, R178) -/

/-- POWER_ON and NRST_LOW hold the part in reset from any state: TXD idle, the pair not driven, SEG_RST asserted; the cause
is POWER_ON when a power-on takes part. A part held takes in nothing else: every other command but the reset's end leaves
it as it is, but for the level of the SEG_ATTN line (R178; the level is the model's choice, notes/assumptions/10.md). -/
def Obligations.ResetLinesHoldPart : Prop :=
  ∀ s : State,
    (∃ t : State, exec .powerOn s = .next t ∧ t.held = some .powerOn ∧ t.link.tx = none ∧ t.engine.txn = none ∧
      t.segRst = true) ∧
    (∃ t : State, exec .nrstLow s = .next t ∧ t.link.tx = none ∧ t.engine.txn = none ∧ t.segRst = true ∧
      (s.held = some .powerOn → t.held = some .powerOn) ∧ (s.held ≠ some .powerOn → t.held = some .pin)) ∧
    (∀ c : Instr, s.held.isSome = true → c ≠ .powerOn → c ≠ .nrstLow → (∀ lspd : BitVec 2, c ≠ .partResetEnd lspd) →
      ∃ level : Bool, exec c s = .next { s with segAttn := level } ∧
        (c ≠ .segAttnAsserted → c ≠ .segAttnReleased → level = s.segAttn))

/-- PART_RESET_END: the part starts at its reset values with the cause recorded and LSPD1..0 sampled, and HELLO goes out
on TXD with both (R177, R178, R180). That a part reset keeps the SEG_ATTN level and the waiting commands is the model's
choice (notes/assumptions/23.md). -/
def Obligations.PartResetEndSendsHello : Prop :=
  ∀ (s : State) (lspd : BitVec 2) (cause : ResetCause), s.held = some cause →
    ∃ t : State, exec (.partResetEnd lspd) s = .next t ∧
      t.link.tx = some { kind := .hello, bytes := frameBytes 0 0x83 [cause.code, lspd.zeroExtend 8, 1] } ∧
      t = { State.afterPartReset cause lspd s.segAttn s.pending with
            link := { (State.afterPartReset cause lspd s.segAttn s.pending).link with tx := t.link.tx } }

/-- The values after a part reset, block by block (R20, R47, R72, R102, R123, R141, R157, R161 to R167, R175 to R177,
R181). That the SEG_ATTN level and the waiting commands are kept is the model's choice (notes/assumptions/23.md). -/
def Obligations.PartResetValues : Prop :=
  ∀ (cause : ResetCause) (lspd : BitVec 2) (level : Bool) (l : List Instr),
    let t := State.afterPartReset cause lspd level l
    t.held = none ∧ t.pwq.entries = [] ∧ t.pwq.nextNumber = 0 ∧ t.pwq.lossCount = 0 ∧
    (∀ i : SlotId, t.slot i = none) ∧ t.drt.order = [] ∧
    t.sched = { delayedShare := 0, collectShare := 0 } ∧ t.engine.txn = none ∧
    t.seg.state = .resetting ∧ t.seg.hold = some 10 ∧ t.seg.settle = none ∧ t.seg.bitRate = none ∧
    t.seg.cause = (if cause = .powerOn then .powerOn else .partReset) ∧ t.segRst = true ∧
    (∀ n : NodeId, t.node n =
      { presence := .unknown, silence := 0, postable := true, packetSize := .p32, identity := none,
        refuseReason := none, fetchToggle := false, fetchEligible := none }) ∧
    t.attn = { members := [], pointer := none, holdoff := none } ∧
    t.notices = { queue := [], next := 0, lostFaults := 0, resend := none, ready := [] } ∧
    t.link.framer = .hunt ∧ t.link.newestPlaced = none ∧ t.link.places = [] ∧ t.link.store = [] ∧
    t.link.nakPending = false ∧ t.link.tx = none ∧ t.link.helloOffered = true ∧ t.link.resetCause = cause ∧
    t.link.lspd = lspd ∧ t.link.stopped = false ∧
    t.params = { attemptLimit := 256, responseWindow := 64, retryGap := 2000, discardTime := 5000, noticeWindow := 4,
                 resendTime := 200, delayedShare := 8, collectShare := 4, silenceLimit := 3, segBitRate := 2,
                 segResetHold := 10, segSettle := 50, surveyHoldoff := 5 } ∧
    t.counters.bytes = List.replicate 44 0 ∧ t.segAttn = level ∧ t.pending = l

/-- HOLD_EXPIRY releases SEG_RST, applies the stored rate and starts the settle deadline; with SEG_SETTLE at 0 the segment
enters RUNNING at once (R104, R105). -/
def Obligations.HoldExpiryReleasesSegment : Prop :=
  ∀ (s : State) (h : Nat), s.held = none → s.seg.hold = some h →
    (s.params.segSettle ≠ 0 →
      exec .holdExpiry s = .next (State.arbitrate { s with
        segRst := false
        seg := { s.seg with state := .settling, hold := none, settle := some s.params.segSettle,
                            bitRate := some s.params.segBitRate } })) ∧
    (s.params.segSettle = 0 →
      exec .holdExpiry s = .next (State.arbitrate (State.schedule { s with
        segRst := false
        seg := { s.seg with state := .running, hold := none, settle := none, bitRate := some s.params.segBitRate }
        notices := s.notices.enterFault (.segmentRestarted s.seg.cause (some s.params.segBitRate))
        engine := { s.engine with turnaround := some 20 } })))

/-- SETTLE_EXPIRY: the segment enters RUNNING, SEGMENT_RESTARTED is handed over with the cause and the rate in force, the
turnaround starts, and then the scheduler decides (R85, R105). -/
def Obligations.SettleExpiryStartsRunning : Prop :=
  ∀ (s : State) (d : Nat), s.held = none → s.seg.settle = some d →
    exec .settleExpiry s = .next (State.arbitrate (State.schedule { s with
      seg := { s.seg with state := .running, hold := none, settle := none }
      notices := s.notices.enterFault (.segmentRestarted s.seg.cause s.seg.bitRate)
      engine := { s.engine with turnaround := some 20 } }))

/-! ### The segment (R78 to R99, R109 to R114, R125 to R136) -/

/-- SEG_ATTN: the level follows the line. Asserted with an idle RUNNING segment, an empty attention set, no holdoff, room
in the Notice Queue and no other candidate, it brings a SURVEY onto the segment; released, it withdraws the offer
(R125, R126, R128). -/
def Obligations.SegAttnFollowsLine : Prop :=
  ∀ s : State, s.held = none →
    exec .segAttnAsserted s = .next (State.schedule { s with segAttn := true }).arbitrate ∧
    exec .segAttnReleased s = .next (State.arbitrate { s with segAttn := false }) ∧
    State.collectOffer { s with segAttn := false, attn := { s.attn with members := [] } } = none ∧
    (s.seg.state = .running → s.engine.txn = none → s.attn.members = [] → s.attn.holdoff = none →
      s.notices.queue.length ≤ 19 → s.pwq.queue = none → (∀ i : SlotId, s.slot i = none) → s.drt.order = [] →
      ∃ (t : State) (x : Transaction), exec .segAttnAsserted s = .next t ∧ t.engine.txn = some x ∧ x.requester = .c ∧
        x.cmd.kind = .survey ∧ x.cmd.target = .survey ∧
        x.phase = (if s.engine.turnaround = none then .sending else .turnaround))

/-- TURNAROUND_EXPIRY, COMMAND_SENT and RESPONSE_START_BIT move the transaction from phase to phase; a command that enters
SENDING is counted and its packet is on the pair, and at the end of SENDING the pair is released and the window deadline
read (R85, R86, R89, R90, R192). -/
def Obligations.TransactionPhasesAdvance : Prop :=
  ∀ s : State, s.held = none →
    (∀ k : Nat, s.engine.turnaround = some k →
      (∀ x : Transaction, s.engine.txn = some x → x.phase = .turnaround →
        exec .turnaroundExpiry s = .next (State.arbitrate { s with
          engine := { txn := some { x with phase := .sending, driven := some x.cmd.packet }, turnaround := none }
          counters := { s.counters with transactionsSent := s.counters.transactionsSent + 1 } })) ∧
      ((∀ x : Transaction, s.engine.txn = some x → x.phase ≠ .turnaround) →
        exec .turnaroundExpiry s =
          .next (State.arbitrate { s with engine := { s.engine with turnaround := none } }))) ∧
    (∀ x : Transaction, s.engine.txn = some x → x.phase = .sending →
      exec .commandSent s = .next (State.arbitrate { s with engine := { s.engine with txn := some { x with
        phase := if x.cmd.kind = .survey then .train else if x.cmd.target = .broadcast then .window else .listening
        driven := none, windowDeadline := some s.params.responseWindow } } })) ∧
    (∀ x : Transaction, s.engine.txn = some x → x.phase = .listening →
      exec .responseStartBit s =
        .next (State.arbitrate { s with engine := { s.engine with txn := some { x with phase := .receiving } } }))

/-- RESPONSE_WINDOW_EXPIRY: NO_RESPONSE is counted, and the node's silence rises; the node becomes ABSENT when the command
was a PROBE or the count reaches SILENCE_LIMIT; a FETCH drops the node from the attention set (R90, R111, R112, R135).
Every other end of a transaction to a node: a response makes the node PRESENT with silence 0, a REFUSE leaves its reason
and an IDENT its identity; GARBLED is counted and leaves the record; no other node's record changes (R91, R109, R110,
R113). Where a response with a bad stop bit ends is the model's reading (notes/assumptions/14.md). -/
def Obligations.SilenceCountsAgainstNode : Prop :=
  (∀ (s : State) (x : Transaction) (n : NodeId), InPhase s x .listening → x.cmd.target = .node n →
    ∃ t : State, exec .responseWindowExpiry s = .next t ∧
      t.counters.noResponses = s.counters.noResponses + 1 ∧ t.counters.garbled = s.counters.garbled ∧
      t.node n = { s.node n with
        silence := min ((s.node n).silence + 1) 15
        presence := if x.cmd.kind = .probe ∨ s.params.silenceLimit ≤ min ((s.node n).silence + 1) 15 then .absent
          else (s.node n).presence } ∧
      (∀ m : NodeId, m ≠ n → t.node m = s.node m) ∧
      (x.requester = .c → ∀ m ∈ t.attn.members, m.node ≠ n) ∧
      t.seg = s.seg ∧ t.params = s.params ∧ t.segAttn = s.segAttn) ∧
  (∀ (s : State) (x : Transaction) (n : NodeId) (c : Instr) (o : SegOutcome), Ends s x c o → x.cmd.target = .node n →
    ∃ t : State, exec c s = .next t ∧ (∀ m : NodeId, m ≠ n → t.node m = s.node m) ∧
      (o ≠ .noResponse → o ≠ .garbled → (t.node n).presence = .present ∧ (t.node n).silence = 0) ∧
      (o = .garbled → (t.node n).presence = (s.node n).presence ∧ (t.node n).silence = (s.node n).silence) ∧
      (t.node n).refuseReason = (match o with
        | .refuse r => some r
        | _ => (s.node n).refuseReason) ∧
      (t.node n).identity = (match o with
        | .ident bytes => some bytes
        | _ => (s.node n).identity) ∧
      (t.node n).postable = (s.node n).postable ∧ (t.node n).packetSize = (s.node n).packetSize ∧
      t.counters.noResponses = s.counters.noResponses + (if o = .noResponse then 1 else 0) ∧
      t.counters.garbled = s.counters.garbled + (if o = .garbled then 1 else 0))

/-- RESPONSE_END with an ACK to the head's packet: with bytes left the head is READY with them counted and attempts 0;
delivered whole it leaves the queue and is counted, the heads behind it whose nodes are ABSENT leave as lost, and the
slots that waited for any of them are released (R11, R16, R31, R37, R67, R81). -/
def Obligations.AckAdvancesHead : Prop :=
  ∀ (s : State) (x : Transaction) (q : HeadedQueue) (n : NodeId) (chars : List RxChar),
    InPhase s x .receiving → x.requester = .p → x.cmd.kind = .wr → x.cmd.target = .node n → s.pwq.queue = some q →
    q.headState = .inFlight → q.head.target = some n → x.received ++ chars = responseChars 0x81 [] →
    (q.head.delivered + x.cmd.length < q.head.data.length →
      exec (.responseEnd chars) s = .next (released { s with
        nodes := s.nodes.set n { s.node n with presence := .present, silence := 0 }
        pwq := { s.pwq with queue := some { q with
          head := { q.head with delivered := q.head.delivered + x.cmd.length, attempts := 0 }
          headState := .ready, repeatPending := false } } })) ∧
    (q.head.delivered + x.cmd.length = q.head.data.length →
      ∃ t : State, exec (.responseEnd chars) s = .next t ∧
        let k := absentRun t q.behind
        t.counters.postedDelivered = s.counters.postedDelivered + 1 ∧
        t.counters.postedLost = s.counters.postedLost + BitVec.ofNat 32 k ∧ t.pwq.entries = q.behind.drop k ∧
        t.pwq.nextNumber = s.pwq.nextNumber ∧
        t.node n = { s.node n with presence := .present, silence := 0 } ∧ (∀ m : NodeId, m ≠ n → t.node m = s.node m) ∧
        (PwqOk s.pwq → TableOk s → StampsReleased s t (q.head :: q.behind.take k) 0))

/-- RESPONSE_GAP_TIMEOUT with the head's packet in flight: GARBLED is counted and the node's record kept; below
ATTEMPT_LIMIT the head waits in GAP with its repeat mark set, at the limit it is discarded with a WRITE_LOST fault and
counted as lost (R10, R12, R17, R91, R113). Every end of the head's transaction but ACK: WAIT, GARBLED and a NO_RESPONSE
that left the node other than ABSENT are retried in this way, WAIT with the mark clear; REFUSE and a NO_RESPONSE that made
the node ABSENT discard the head under their own reasons. A discard takes with it the heads behind whose nodes are ABSENT,
and releases the slots that waited (R12, R13, R14, R16, R31, R37, R67). Where a response with a bad stop bit ends is the
model's reading (notes/assumptions/14.md). -/
def Obligations.FailedPacketRetriesHead : Prop :=
  (∀ (s : State) (x : Transaction) (q : HeadedQueue) (n : NodeId),
    InPhase s x .receiving → x.requester = .p → x.cmd.target = .node n → s.pwq.queue = some q →
    q.headState = .inFlight →
    (q.head.attempts + 1 < s.params.attemptLimit →
      exec .responseGapTimeout s = .next (released { s with
        counters := { s.counters with garbled := s.counters.garbled + 1 }
        pwq := { s.pwq with queue := some { q with
          head := { q.head with attempts := q.head.attempts + 1 }
          headState := .gap s.params.retryGap, repeatPending := true } } })) ∧
    (s.params.attemptLimit ≤ q.head.attempts + 1 → s.notices.queue.length < 24 →
      ∃ t : State, exec .responseGapTimeout s = .next t ∧
        t.counters.garbled = s.counters.garbled + 1 ∧ t.nodes = s.nodes ∧
        HeadDiscarded s t q .retryExhausted)) ∧
  (∀ (s : State) (x : Transaction) (q : HeadedQueue) (n : NodeId) (c : Instr) (o : SegOutcome),
    Ends s x c o → o ≠ .ack → x.requester = .p → x.cmd.kind = .wr → x.cmd.target = .node n → s.pwq.queue = some q →
    q.headState = .inFlight → q.head.target = some n →
    ∃ t : State, exec c s = .next t ∧
      (o = .wait ∨ o = .garbled ∨ o = .noResponse ∧ (t.node n).presence ≠ .absent →
        (q.head.attempts + 1 < s.params.attemptLimit →
          t.pwq = { s.pwq with queue := some { q with
            head := { q.head with attempts := q.head.attempts + 1 }
            headState := .gap s.params.retryGap, repeatPending := decide (o ≠ .wait) } } ∧
          t.counters.postedLost = s.counters.postedLost) ∧
        (s.params.attemptLimit ≤ q.head.attempts + 1 → HeadDiscarded s t q .retryExhausted)) ∧
      (∀ r : Byte, o = .refuse r → HeadDiscarded s t q (.refused r)) ∧
      (o = .noResponse → (t.node n).presence = .absent → HeadDiscarded s t q .nodeAbsent))

/-- RESPONSE_END with the DATA that a READ_REGS or READ_BLOCK slot asked for: the bytes are appended, attempts return to 0,
and at the count the slot is COMPLETE with OK and a stamp that names the newest notice (R38, R41, R52, R66). Every other
end of a slot's transaction: an ACK counts the bytes of a CONFIRM_WRITE's packet; an IDENT completes a PROBE_NODE with the
identity; WAIT, GARBLED and a NO_RESPONSE that left the node other than ABSENT send the slot to the tail of the order list
with a gap, or complete it RETRY_EXHAUSTED at ATTEMPT_LIMIT; REFUSE and any other NO_RESPONSE complete it; an ORPHANED
slot drops whatever comes and is FREE (R36, R38, R39, R40, R45, R53). Where a response with a bad stop bit ends is the
model's reading (notes/assumptions/14.md). -/
def Obligations.DataReachesSlot : Prop :=
  (∀ (s : State) (x : Transaction) (i : SlotId) (sl : Slot) (n : NodeId) (a : Half) (c : Nat) (content : List Byte)
    (chars : List RxChar),
    InPhase s x .receiving → x.requester = .d i → x.cmd.kind = .rd → x.cmd.target = .node n → s.slot i = some sl →
    sl.state = .active → sl.postingStamp = none → 1 ≤ content.length → content.length ≤ 32 →
    x.cmd.length = content.length → x.received ++ chars = responseChars 0x82 content →
    ∃ (t : State), exec (.responseEnd chars) s = .next t ∧
      (t.node n).presence = .present ∧ (t.node n).silence = 0 ∧
      (sl.req = .readRegs n a c → sl.bytesReceived + content.length < c →
        t.slot i = some { sl with data := sl.data ++ content, bytesReceived := sl.bytesReceived + content.length,
                                  attempts := 0, repeatPending := false }) ∧
      (sl.req = .readRegs n a c → sl.bytesReceived + content.length = c →
        ∃ r : Slot, t.slot i = some r ∧ r.state = .complete ∧ r.result = some .ok ∧ r.data = sl.data ++ content ∧
          r.bytesReceived = c ∧ r.dataStamp = t.notices.newest ∧ i ∉ t.drt.order ∧
          r.discard = (if s.params.discardTime = 0 then none else some s.params.discardTime)) ∧
      (sl.req = .readBlock n a c → sl.fetchCursor + content.length ≤ c →
        ∃ r : Slot, t.slot i = some r ∧ r.data = sl.data ++ content ∧ r.fetchCursor = sl.fetchCursor + content.length ∧
          r.deliveryCursor = sl.deliveryCursor ∧ r.dataStamp = t.notices.newest ∧ r.attempts = 0 ∧
          (sl.fetchCursor + content.length < c → r.state = .active) ∧
          (sl.fetchCursor + content.length = c → r.state = .complete ∧ r.result = some .ok))) ∧
  (∀ (s : State) (x : Transaction) (i : SlotId) (sl : Slot) (n : NodeId) (c : Instr) (o : SegOutcome),
    Ends s x c o → x.requester = .d i → x.cmd.target = .node n → s.slot i = some sl →
    ∃ t : State, exec c s = .next t ∧
      (sl.state = .orphaned → t.slot i = none ∧ i ∉ t.drt.order ∧ i ∉ t.notices.ready ∧
        (HeadChecked s → o ≠ .noResponse → contents t.notices = contents s.notices)) ∧
      (sl.state = .active → CommandFor sl.req x.cmd →
        (o = .wait ∨ o = .garbled ∨ o = .noResponse ∧ (t.node n).presence ≠ .absent →
          (sl.attempts + 1 < s.params.attemptLimit →
            t.drt.order.getLast? = some i ∧
            ∃ r : Slot, t.slot i = some r ∧ r.state = .waiting ∧ r.req = sl.req ∧ r.notify = sl.notify ∧
              r.attempts = sl.attempts + 1 ∧ r.repeatPending = decide (o ≠ .wait) ∧ r.gap = some s.params.retryGap ∧
              r.bytesDelivered = sl.bytesDelivered ∧ r.bytesReceived = sl.bytesReceived ∧ r.data = sl.data ∧
              r.fetchCursor = sl.fetchCursor ∧ r.deliveryCursor = sl.deliveryCursor) ∧
          (s.params.attemptLimit ≤ sl.attempts + 1 → CompletedAs s t i sl .retryExhausted)) ∧
        (∀ r : Byte, o = .refuse r → CompletedAs s t i sl (.refused r)) ∧
        (o = .noResponse → (t.node n).presence = .absent → CompletedAs s t i sl .nodeAbsent) ∧
        (∀ bytes : List Byte, o = .ident bytes → CompletedAs s t i { sl with data := bytes } .ok) ∧
        (∀ (a : Half) (d : List Byte), o = .ack → sl.req = .confirmWrite n a d →
          let sl' : Slot := { sl with bytesDelivered := sl.bytesDelivered + x.cmd.length }
          (sl'.bytesDelivered = d.length → CompletedAs s t i sl' .ok) ∧
          (sl'.bytesDelivered < d.length →
            ∃ r : Slot, t.slot i = some r ∧ r.state = .active ∧ r.req = sl.req ∧ r.attempts = 0 ∧
              r.repeatPending = false ∧ r.bytesDelivered = sl'.bytesDelivered))))

/-- RESPONSE_END with a REPORT to a FETCH: with room it becomes the newest notice, the fetch toggle flips, and the node
stays in the attention set only with the more-flag; with a full queue it is not entered, the toggle stays, and the
member's repeat mark is set (R133, R134, R145, R148). Every other end of a FETCH: EMPTY, REFUSE and NO_RESPONSE remove the
node from the set; WAIT and GARBLED keep it, with its fetch eligible time RETRY_GAP ahead and its repeat mark clear or
set; the other members stay, but for those ABSENT at the next decision (R126, R135, R136). Where a response with a bad
stop bit ends is the model's reading (notes/assumptions/14.md). -/
def Obligations.ReportEntersNoticeQueue : Prop :=
  (∀ (s : State) (x : Transaction) (n : NodeId) (more : Bool) (code : Byte) (data : List Byte) (chars : List RxChar),
    InPhase s x .receiving → x.requester = .c → x.cmd.kind = .fetch → x.cmd.target = .node n → HeadChecked s →
    data.length ≤ 16 →
    x.received ++ chars =
      responseChars 0x85 ((byte data.length ||| (if more then 0x80 else 0)) :: code :: data) →
    ∃ t : State, exec (.responseEnd chars) s = .next t ∧
      (∀ m : NodeId, m ≠ n → t.node m = s.node m) ∧
      (s.notices.queue.length < 24 →
        contents t.notices = contents s.notices ++ [(s.notices.next, .report n code data)] ∧
        t.notices.next = s.notices.next + 1 ∧ t.notices.lostFaults = s.notices.lostFaults ∧
        t.node n = { s.node n with presence := .present, silence := 0, fetchToggle := !(s.node n).fetchToggle } ∧
        (more = false → ∀ m ∈ t.attn.members, m.node ≠ n) ∧
        (more = true → s.attn.has n = true → t.attn.has n = true) ∧
        (∀ m ∈ t.attn.members, m.node = n → m.repeatMark = false)) ∧
      (24 ≤ s.notices.queue.length →
        contents t.notices = contents s.notices ∧ t.notices.lostFaults = s.notices.lostFaults ∧
        t.node n = { s.node n with presence := .present, silence := 0 } ∧
        (s.attn.has n = true → t.attn.has n = true) ∧
        (∀ m ∈ t.attn.members, m.node = n → m.repeatMark = true))) ∧
  (∀ (s : State) (x : Transaction) (n : NodeId) (c : Instr) (o : SegOutcome), Ends s x c o → x.requester = .c →
    x.cmd.kind = .fetch → x.cmd.target = .node n →
    ∃ t : State, exec c s = .next t ∧
      (o = .empty ∨ (∃ r : Byte, o = .refuse r) ∨ o = .noResponse →
        t.attn.has n = false ∧ (t.node n).fetchEligible = (s.node n).fetchEligible ∧
        (t.node n).fetchToggle = (s.node n).fetchToggle) ∧
      (o = .wait ∨ o = .garbled →
        (t.node n).fetchEligible = some s.params.retryGap ∧ (t.node n).fetchToggle = (s.node n).fetchToggle ∧
        (s.attn.has n = true → (t.node n).presence ≠ .absent → t.attn.has n = true) ∧
        (∀ m ∈ t.attn.members, m.node = n → m.repeatMark = decide (o = .garbled))) ∧
      (∀ m : Member, m.node ≠ n → (m ∈ t.attn.members → m ∈ s.attn.members) ∧
        (m ∈ s.attn.members → (s.node m.node).presence ≠ .absent → m ∈ t.attn.members)) ∧
      (HeadChecked s → o = .empty ∨ (∃ r : Byte, o = .refuse r) ∨ o = .wait ∨ o = .garbled →
        contents t.notices = contents s.notices))

/-- BROADCAST_WINDOW_EXPIRY: the packet counts as delivered, with no part for the Node Table; delivered whole, the entry
leaves as an acknowledged one does (R11, R15, R16, R31, R37, R81, R97). -/
def Obligations.BroadcastWindowDelivers : Prop :=
  ∀ (s : State) (x : Transaction) (q : HeadedQueue), InPhase s x .window → s.pwq.queue = some q →
    q.head.target = none →
    (q.head.delivered + x.cmd.length < q.head.data.length →
      exec .broadcastWindowExpiry s = .next (released { s with
        pwq := { s.pwq with queue := some { q with
          head := { q.head with delivered := q.head.delivered + x.cmd.length, attempts := 0 }
          headState := .ready, repeatPending := false } } })) ∧
    (q.head.delivered + x.cmd.length = q.head.data.length →
      ∃ t : State, exec .broadcastWindowExpiry s = .next t ∧
        let k := absentRun t q.behind
        t.counters.postedDelivered = s.counters.postedDelivered + 1 ∧
        t.counters.postedLost = s.counters.postedLost + BitVec.ofNat 32 k ∧ t.pwq.entries = q.behind.drop k ∧
        t.nodes = s.nodes ∧ t.counters.noResponses = s.counters.noResponses ∧
        t.counters.garbled = s.counters.garbled ∧
        (PwqOk s.pwq → TableOk s → StampsReleased s t (q.head :: q.behind.take k) 0))

/-- SURVEY_TRAIN_END: a node is marked when a start bit fell in its slot, 12 bit times from bit time 12 times its address;
marked nodes become PRESENT with silence 0 and are the new attention set; with no mark the holdoff starts
(R98, R99, R114, R130, R131). That a start bit comes at a whole bit time and that a slot's last bit time is the one
before the next slot's first are the model's reading (notes/assumptions/15.md). -/
def Obligations.SurveyMarksNodes : Prop :=
  ∀ (s : State) (x : Transaction) (starts : List TrainStart), InPhase s x .train →
    ∃ (t : State) (marked : List NodeId), exec (.surveyTrainEnd starts) s = .next t ∧
      (∀ n : NodeId, n ∈ marked ↔ ∃ a ∈ starts, 12 * (n.val + 1) ≤ a.time ∧ a.time < 12 * (n.val + 1) + 12) ∧
      (∀ n : NodeId, n ∈ marked → t.node n = { s.node n with presence := .present, silence := 0 }) ∧
      (∀ n : NodeId, n ∉ marked → t.node n = s.node n) ∧
      (∀ m : Member, m ∈ t.attn.members ↔ m.node ∈ marked ∧ m.repeatMark = false) ∧
      t.attn.holdoff = (if marked = [] then some s.params.surveyHoldoff else s.attn.holdoff) ∧
      t.counters.noResponses = s.counters.noResponses ∧ t.counters.garbled = s.counters.garbled

/-- Every well-formed response permitted for the command ends at its own length and is classified as its kind, with its
body. A response ends after 5 characters and its length when its kind and length can be trusted, after 37 when not, and
whatever has then come that is no permitted response is GARBLED: a wrong sync, kind, length, stop bit, CRC, refuse reason
or report count (R91 to R94, R96, R193). That a kind or length character with a bad stop bit makes the declared length
untrusted, so that the response ends at 37, is the model's reading (notes/assumptions/14.md, DEDUCED). -/
def Obligations.GoodResponsesClassified : Prop :=
  ∀ cmd : Command,
    (∀ (code : Byte) (content : List Byte) (o : SegOutcome), Permitted cmd code content o →
      responseLength cmd (responseChars code content) = 5 + content.length ∧
        classify cmd (responseChars code content) = o) ∧
    (∀ chars : List RxChar, responseLength cmd chars = endOf cmd chars) ∧
    (∀ chars : List RxChar, Faulty cmd chars → classify cmd chars = .garbled)

/-- At each decision the grant goes to C when its share is reached, else to D when its share is reached, else to the first
present of P, D, C (R78). P is present while the head is READY (R74), D is the slot the DRT offers (R75), and C is collect
work offered while the Notice Queue holds 19 entries or fewer (R76). -/
def Obligations.GrantRule : Prop :=
  ∀ s : State, s.seg.state = .running → s.engine.txn = none →
    let p : Prop := ∃ q : HeadedQueue, s.pwq.queue = some q ∧ q.headState = .ready
    let d : Prop := (slotOffered s).isSome = true
    let c : Prop := CollectPresent s
    let grantedTo := s.schedule.engine.txn.map (·.requester)
    (c ∧ s.params.collectShare ≤ s.sched.collectShare → grantedTo = some .c) ∧
    (¬(c ∧ s.params.collectShare ≤ s.sched.collectShare) → d ∧ s.params.delayedShare ≤ s.sched.delayedShare →
      grantedTo = (slotOffered s).map Requester.d) ∧
    (¬(c ∧ s.params.collectShare ≤ s.sched.collectShare) → ¬(d ∧ s.params.delayedShare ≤ s.sched.delayedShare) →
      (p → grantedTo = some .p) ∧ (¬p → d → grantedTo = (slotOffered s).map Requester.d) ∧
      (¬p → ¬d → c → grantedTo = some .c) ∧ (¬p → ¬d → ¬c → grantedTo = none))

/-- The share counters after a grant, from the grantee and the candidates present at the decision; with shares of at most
32 they stay within 0..32 (R79). -/
def Obligations.ShareCountersUpdate : Prop :=
  ∀ s : State, s.seg.state = .running → s.engine.txn = none →
    let d : Prop := (slotOffered s).isSome = true
    let c : Prop := CollectPresent s
    let t := s.schedule
    let grantedTo := t.engine.txn.map (·.requester)
    (grantedTo = some .p →
      (c → t.sched.collectShare = s.sched.collectShare + 1) ∧ (¬c → t.sched.collectShare = 0) ∧
      (d → t.sched.delayedShare = s.sched.delayedShare + 1) ∧ (¬d → t.sched.delayedShare = 0)) ∧
    (∀ i : SlotId, grantedTo = some (.d i) →
      (c → t.sched.collectShare = s.sched.collectShare + 1) ∧ (¬c → t.sched.collectShare = 0) ∧
      t.sched.delayedShare = 0) ∧
    (grantedTo = some .c →
      t.sched.collectShare = 0 ∧ (d → t.sched.delayedShare = s.sched.delayedShare) ∧ (¬d → t.sched.delayedShare = 0)) ∧
    (grantedTo = none → t.sched = s.sched) ∧
    (s.params.collectShare ≤ 32 → s.params.delayedShare ≤ 32 → s.sched.collectShare ≤ 32 → s.sched.delayedShare ≤ 32 →
      t.sched.collectShare ≤ 32 ∧ t.sched.delayedShare ≤ 32)

/-- The WR a head sends: it starts at the register address plus the bytes delivered, stays inside one block of the packet
size, ends at the block's end or the data's, carries the data's own bytes, and has the repeat flag of the mark, never for
a broadcast (R9, R10, R87). A slot's command is cut in the same way from its own progress, a PROBE_NODE's is a PROBE (R33
to R36, R51). A grant puts the grantee's command on the transaction record: the head goes IN_FLIGHT; the slot goes ACTIVE
and off the order list, the slots passed over before it complete NODE_ABSENT; a FETCH goes to the first member after the
rotation pointer, with its repeat mark and its node's toggle, and a SURVEY to all (R32, R80, R86, R126, R127, R129, R132).
The command's packet is laid out as R192 gives it, and is on the pair from the grant unless the turnaround still runs
(R85, R89). -/
def Obligations.HeadPacketCut : Prop :=
  (∀ (s : State) (q : HeadedQueue), q.head.delivered < q.head.data.length →
    q.head.addr.toNat + q.head.data.length ≤ 65536 →
    let cmd := s.headCommand q
    let start := q.head.addr.toNat + q.head.delivered
    let size := match q.head.target with
      | some n => (s.node n).packetSize.bytes
      | none => 32
    cmd.kind = .wr ∧ cmd.regAddr.toNat = start ∧ 1 ≤ cmd.length ∧
      q.head.delivered + cmd.length ≤ q.head.data.length ∧ start / size = (start + cmd.length - 1) / size ∧
      (q.head.delivered + cmd.length = q.head.data.length ∨ (start + cmd.length) % size = 0) ∧
      cmd.data.length = cmd.length ∧
      q.head.data = q.head.data.take q.head.delivered ++ cmd.data ++ q.head.data.drop (q.head.delivered + cmd.length) ∧
      (cmd.repeatFlag = true ↔ q.repeatPending = true ∧ q.head.target ≠ none) ∧
      cmd.target = (match q.head.target with
        | some n => .node n
        | none => .broadcast)) ∧
  (∀ (s : State) (sl : Slot) (n : NodeId),
    let cmd := s.slotCommand sl
    let size := (s.node n).packetSize.bytes
    (∀ (a : Half) (d : List Byte), sl.req = .confirmWrite n a d → sl.bytesDelivered < d.length →
      a.toNat + d.length ≤ 65536 →
      CutAt cmd size (a.toNat + sl.bytesDelivered) (d.length - sl.bytesDelivered) ∧
      cmd = { kind := .wr, target := .node n, regAddr := cmd.regAddr, length := cmd.length,
              data := (d.drop sl.bytesDelivered).take cmd.length, repeatFlag := sl.repeatPending, toggle := false }) ∧
    (∀ (a : Half) (c : Nat), sl.req = .readRegs n a c → sl.bytesReceived < c → a.toNat + c ≤ 65536 →
      CutAt cmd size (a.toNat + sl.bytesReceived) (c - sl.bytesReceived) ∧
      cmd = { kind := .rd, target := .node n, regAddr := cmd.regAddr, length := cmd.length, data := [],
              repeatFlag := sl.repeatPending, toggle := false }) ∧
    (∀ (a : Half) (c : Nat), sl.req = .readBlock n a c → sl.fetchCursor < c → a.toNat + c ≤ 65536 →
      CutAt cmd size (a.toNat + sl.fetchCursor) (c - sl.fetchCursor) ∧
      cmd = { kind := .rd, target := .node n, regAddr := cmd.regAddr, length := cmd.length, data := [],
              repeatFlag := sl.repeatPending, toggle := false }) ∧
    (sl.req = .probeNode n →
      cmd = { kind := .probe, target := .node n, regAddr := 0, length := 0, data := [], repeatFlag := sl.repeatPending,
              toggle := false })) ∧
  (∀ (s : State) (x : Transaction), s.seg.state = .running → s.engine.txn = none → s.schedule.engine.txn = some x →
    let t := s.schedule
    x.received = [] ∧ x.windowDeadline = none ∧
    (s.engine.turnaround = none → x.phase = .sending ∧ x.driven = some x.cmd.packet ∧
      t.counters.transactionsSent = s.counters.transactionsSent + 1) ∧
    (s.engine.turnaround ≠ none → x.phase = .turnaround ∧ x.driven = none ∧
      t.counters.transactionsSent = s.counters.transactionsSent) ∧
    (x.requester = .p → ∃ q : HeadedQueue, s.pwq.queue = some q ∧ q.headState = .ready ∧ x.cmd = s.headCommand q ∧
      t.pwq = { s.pwq with queue := some { q with headState := .inFlight } }) ∧
    (∀ i : SlotId, x.requester = .d i → slotOffered s = some i ∧ i ∉ t.drt.order ∧
      ∃ sl : Slot, s.slot i = some sl ∧ x.cmd = s.slotCommand sl ∧ t.slot i = some { sl with state := .active }) ∧
    (x.requester = .c →
      (∃ n : NodeId, FetchReady s n ∧
        (∀ m : NodeId, FetchReady s m → fetchRank s.attn.pointer n ≤ fetchRank s.attn.pointer m) ∧
        x.cmd = { kind := .fetch, target := .node n, regAddr := 0, length := 0, data := [],
                  repeatFlag := s.attn.members.any fun m => m.node == n && m.repeatMark,
                  toggle := (s.node n).fetchToggle } ∧ t.attn.pointer = some n) ∨
      (∀ n : NodeId, ¬FetchReady s n) ∧ SurveyReady s ∧
        x.cmd = { kind := .survey, target := .survey, regAddr := 0, length := 0, data := [], repeatFlag := false,
                  toggle := false } ∧ t.attn.pointer = s.attn.pointer)) ∧
  (∀ (s : State) (i : SlotId) (sl : Slot), s.seg.state = .running → s.engine.txn = none → s.slot i = some sl →
    i ∈ (slotsLookedAt s).takeWhile (fun j => (s.slot j).any (nodeGone s)) →
    ∃ r : Slot, s.schedule.slot i = some r ∧ r.state = .complete ∧ r.result = some .nodeAbsent ∧ r.data = sl.data ∧
      r.bytesDelivered = sl.bytesDelivered ∧ r.fetchCursor = sl.fetchCursor ∧ r.deliveryCursor = sl.deliveryCursor ∧
      r.dataStamp = s.notices.newest ∧ i ∉ s.schedule.drt.order) ∧
  (∀ c : Command,
    let covered : List Byte :=
      [BitVec.ofNat 8 ((match c.target with
          | .broadcast => 0
          | .node n => n.val + 1
          | .survey => 31) + (if c.toggle then 32 else 0) + (if c.repeatFlag then 64 else 0)),
        (match c.kind with
          | .wr => 0x01
          | .rd => 0x02
          | .fetch => 0x03
          | .survey => 0x04
          | .probe => 0x05)] ++ halfBytes c.regAddr ++ [BitVec.ofNat 8 c.length] ++ c.data
    c.packet = [0xC3] ++ covered ++ halfBytes (segmentCrc covered))

/-! ### Deadlines (R12, R16, R39, R42, R131, R136, R155) -/

/-- HEAD_GAP_EXPIRY returns the head to READY, where an ABSENT node's head is discarded and the heads behind it whose nodes
are ABSENT with it; SLOT_GAP_EXPIRY ends a slot's gap; then the scheduler decides (R8, R12, R16, R17, R39, R77). -/
def Obligations.GapExpiryMakesReady : Prop :=
  ∀ s : State, s.held = none →
    (∀ (q : HeadedQueue) (g : Nat), s.pwq.queue = some q → q.headState = .gap g →
      (s.headAbsent q.head = false →
        exec .headGapExpiry s = .next (State.arbitrate (State.schedule
          { s with pwq := { s.pwq with queue := some { q with headState := .ready } } }))) ∧
      (s.headAbsent q.head = true →
        ∃ t : State, exec .headGapExpiry s = .next t ∧ t.nodes = s.nodes ∧ HeadDiscarded s t q .nodeAbsent)) ∧
    (∀ (i : SlotId) (sl : Slot) (g : Nat), s.slot i = some sl → sl.gap = some g →
      exec (.slotGapExpiry i) s = .next (State.arbitrate (State.schedule
        { s with drt := { s.drt with slots := s.drt.slots.set i (some { sl with gap := none }) } })))

/-- DISCARD_EXPIRY frees the slot, counts the discard and hands over COMPLETION_DISCARDED, which is entered as the newest
notice or counted as lost (R42, R61, R145, R146). -/
def Obligations.DiscardExpiryFreesSlot : Prop :=
  ∀ (s : State) (i : SlotId) (sl : Slot) (g : Nat), s.held = none → s.slot i = some sl → sl.discard = some g →
    ∃ t : State, exec (.discardExpiry i) s = .next t ∧ t.slot i = none ∧ (∀ j : SlotId, j ≠ i → t.slot j = s.slot j) ∧
      i ∉ t.drt.order ∧ i ∉ t.notices.ready ∧
      t.counters = { s.counters with completionsDiscarded := s.counters.completionsDiscarded + 1 } ∧
      t.pwq = s.pwq ∧ t.nodes = s.nodes ∧ t.engine = s.engine ∧ t.seg = s.seg ∧ t.sched = s.sched ∧ t.attn = s.attn ∧
      t.params = s.params ∧
      (s.notices.queue.length < 24 →
        contents t.notices = contents s.notices ++
          [(s.notices.next, .fault s.notices.lostFaults (.completionDiscarded i sl.req
            (if sl.req = .barrier then sl.lossCount else sl.req.count) sl.result
            (if sl.req.kind = .readBlock then sl.fetchCursor - sl.deliveryCursor else 0)))] ∧
        t.notices.next = s.notices.next + 1 ∧ t.notices.lostFaults = 0) ∧
      (24 ≤ s.notices.queue.length →
        contents t.notices = contents s.notices ∧ t.notices.next = s.notices.next ∧
        t.notices.lostFaults = min (s.notices.lostFaults + 1) 255)

/-- FETCH_ELIGIBLE_EXPIRY and SURVEY_HOLDOFF_EXPIRY end their deadline, and the scheduler decides on the offer they may
make (R128, R131, R136). -/
def Obligations.CollectDeadlinesEnd : Prop :=
  ∀ s : State, s.held = none →
    (∀ (n : NodeId) (g : Nat), (s.node n).fetchEligible = some g →
      exec (.fetchEligibleExpiry n) s = .next (State.arbitrate (State.schedule
        { s with nodes := s.nodes.set n { s.node n with fetchEligible := none } }))) ∧
    (∀ g : Nat, s.attn.holdoff = some g →
      exec .surveyHoldoffExpiry s = .next (State.arbitrate (State.schedule
        { s with attn := { s.attn with holdoff := none } })))

/-- RESEND_EXPIRY makes every SENT entry UNSENT and the deadline none, with numbers, payloads and send counts kept; no
data notice stamp changes; the arbiter decides afresh (R155). -/
def Obligations.ResendExpiryRewinds : Prop :=
  ∀ (s : State) (g : Nat), s.held = none → s.notices.resend = some g →
    exec .resendExpiry s = .next (State.arbitrate
      { s with notices := { s.notices with queue := rewound s.notices.queue, resend := none } })

/-! ### Invariants -/

/-- Every invariant below holds right after every part reset. -/
def Obligations.InvariantsAfterReset : Prop :=
  ∀ (cause : ResetCause) (lspd : BitVec 2) (level : Bool) (l : List Instr),
    let t := State.afterPartReset cause lspd level l
    NoticesOk t.notices ∧ PwqOk t.pwq ∧ TableOk t ∧ SegmentOk t ∧ AttentionOk t ∧ ParamsOk t.params ∧ LinkOk t.link

/-- Every step keeps the form of the Notice Queue, and one hint a slot on the Ready List (R43, R143, R144, R149, R158). It
also keeps the list in ascending order, which is the model's choice (notes/assumptions/18.md, DESIGN CHOICE): R158 leaves
the list unordered. -/
def Obligations.NoticeQueueFormKept : Prop :=
  ∀ s t : State, (s.held = none → NoticesOk s.notices) → step s = .next t → t.held = none → NoticesOk t.notices

/-- Every step keeps the Posted Write Queue's form (R2, R3, R18). -/
def Obligations.PostedQueueFormKept : Prop :=
  ∀ s t : State, (s.held = none → PwqOk s.pwq) → step s = .next t → t.held = none → PwqOk t.pwq

/-- Every step keeps the live keys distinct, the delayed order list true to the WAITING slots, every BARRIER that is not
COMPLETE waiting for a posted write, every posting stamp that of a queued entry, and every hint that of a COMPLETE slot
with NOTIFY set (R23, R24, R31, R37, R43). -/
def Obligations.TableFormKept : Prop :=
  ∀ s t : State, (s.held = none → TableOk s) → step s = .next t → t.held = none → TableOk t

/-- Every step keeps the segment's deadlines and SEG_RST true to the segment state, transactions to RUNNING, the command
packet on the pair to SENDING, and the attention set empty outside RUNNING (R73, R85, R102 to R104, R140). -/
def Obligations.SegmentFormKept : Prop :=
  ∀ s t : State, (s.held = none → SegmentOk s ∧ AttentionOk s) → step s = .next t → t.held = none →
    SegmentOk t ∧ AttentionOk t

/-- Every step keeps every parameter in its range (R181, R182). -/
def Obligations.ParametersInRange : Prop :=
  ∀ s t : State, (s.held = none → ParamsOk s.params) → step s = .next t → t.held = none → ParamsOk t.params

/-- Every step keeps the buffer at four places and the store at eight answers of distinct sequences (R164, R167). -/
def Obligations.LinkFormKept : Prop :=
  ∀ s t : State, (s.held = none → LinkOk s.link) → step s = .next t → t.held = none → LinkOk t.link
end

