-- ==== Sys2Proof/Laws/State.lean ====
section
/-!
SUPPORT. What each plain update of the state gives each field: one lemma per field per update, true by rfl.
-/

namespace Sys2Proof.Machine

/-! ### setNode -/

@[simp] theorem State.setNode_held (s : State) (n : NodeId) (r : NodeRecord) : (s.setNode n r).held = s.held := rfl
@[simp] theorem State.setNode_pwq (s : State) (n : NodeId) (r : NodeRecord) : (s.setNode n r).pwq = s.pwq := rfl
@[simp] theorem State.setNode_drt (s : State) (n : NodeId) (r : NodeRecord) : (s.setNode n r).drt = s.drt := rfl
@[simp] theorem State.setNode_sched (s : State) (n : NodeId) (r : NodeRecord) : (s.setNode n r).sched = s.sched := rfl
@[simp] theorem State.setNode_engine (s : State) (n : NodeId) (r : NodeRecord) :
    (s.setNode n r).engine =
      s.engine := rfl
@[simp] theorem State.setNode_seg (s : State) (n : NodeId) (r : NodeRecord) : (s.setNode n r).seg = s.seg := rfl
@[simp] theorem State.setNode_segRst (s : State) (n : NodeId) (r : NodeRecord) :
    (s.setNode n r).segRst =
      s.segRst := rfl
@[simp] theorem State.setNode_segAttn (s : State) (n : NodeId) (r : NodeRecord) :
    (s.setNode n r).segAttn =
      s.segAttn := rfl
@[simp] theorem State.setNode_nodes (s : State) (n : NodeId) (r : NodeRecord) :
    (s.setNode n r).nodes =
      s.nodes.set n r := rfl
@[simp] theorem State.setNode_attn (s : State) (n : NodeId) (r : NodeRecord) : (s.setNode n r).attn = s.attn := rfl
@[simp] theorem State.setNode_notices (s : State) (n : NodeId) (r : NodeRecord) :
    (s.setNode n r).notices =
      s.notices := rfl
@[simp] theorem State.setNode_link (s : State) (n : NodeId) (r : NodeRecord) : (s.setNode n r).link = s.link := rfl
@[simp] theorem State.setNode_params (s : State) (n : NodeId) (r : NodeRecord) :
    (s.setNode n r).params =
      s.params := rfl
@[simp] theorem State.setNode_counters (s : State) (n : NodeId) (r : NodeRecord) :
    (s.setNode n r).counters =
      s.counters := rfl
@[simp] theorem State.setNode_pending (s : State) (n : NodeId) (r : NodeRecord) :
    (s.setNode n r).pending =
      s.pending := rfl

/-! ### setSlot -/

@[simp] theorem State.setSlot_held (s : State) (i : SlotId) (sl : Option Slot) : (s.setSlot i sl).held = s.held := rfl
@[simp] theorem State.setSlot_pwq (s : State) (i : SlotId) (sl : Option Slot) : (s.setSlot i sl).pwq = s.pwq := rfl
@[simp] theorem State.setSlot_drt (s : State) (i : SlotId) (sl : Option Slot) :
    (s.setSlot i sl).drt =
      { s.drt with slots := s.drt.slots.set i sl } := rfl
@[simp] theorem State.setSlot_sched (s : State) (i : SlotId) (sl : Option Slot) :
    (s.setSlot i sl).sched =
      s.sched := rfl
@[simp] theorem State.setSlot_engine (s : State) (i : SlotId) (sl : Option Slot) :
    (s.setSlot i sl).engine =
      s.engine := rfl
@[simp] theorem State.setSlot_seg (s : State) (i : SlotId) (sl : Option Slot) : (s.setSlot i sl).seg = s.seg := rfl
@[simp] theorem State.setSlot_segRst (s : State) (i : SlotId) (sl : Option Slot) :
    (s.setSlot i sl).segRst =
      s.segRst := rfl
@[simp] theorem State.setSlot_segAttn (s : State) (i : SlotId) (sl : Option Slot) :
    (s.setSlot i sl).segAttn =
      s.segAttn := rfl
@[simp] theorem State.setSlot_nodes (s : State) (i : SlotId) (sl : Option Slot) :
    (s.setSlot i sl).nodes =
      s.nodes := rfl
@[simp] theorem State.setSlot_attn (s : State) (i : SlotId) (sl : Option Slot) : (s.setSlot i sl).attn = s.attn := rfl
@[simp] theorem State.setSlot_notices (s : State) (i : SlotId) (sl : Option Slot) :
    (s.setSlot i sl).notices =
      s.notices := rfl
@[simp] theorem State.setSlot_link (s : State) (i : SlotId) (sl : Option Slot) : (s.setSlot i sl).link = s.link := rfl
@[simp] theorem State.setSlot_params (s : State) (i : SlotId) (sl : Option Slot) :
    (s.setSlot i sl).params =
      s.params := rfl
@[simp] theorem State.setSlot_counters (s : State) (i : SlotId) (sl : Option Slot) :
    (s.setSlot i sl).counters =
      s.counters := rfl
@[simp] theorem State.setSlot_pending (s : State) (i : SlotId) (sl : Option Slot) :
    (s.setSlot i sl).pending =
      s.pending := rfl

/-! ### fillSlot -/

@[simp] theorem State.fillSlot_held (s : State) (i : SlotId) (req : DelayedReq) (notify : Bool) :
    (s.fillSlot i req notify).held =
      s.held := rfl
@[simp] theorem State.fillSlot_pwq (s : State) (i : SlotId) (req : DelayedReq) (notify : Bool) :
    (s.fillSlot i req notify).pwq =
      s.pwq := rfl
@[simp] theorem State.fillSlot_drt (s : State) (i : SlotId) (req : DelayedReq) (notify : Bool) :
    (s.fillSlot i req notify).drt =
      { slots := s.drt.slots.set i (some (Slot.filled req notify s.pwq.newest)), order := s.drt.order ++ [i] } := rfl
@[simp] theorem State.fillSlot_sched (s : State) (i : SlotId) (req : DelayedReq) (notify : Bool) :
    (s.fillSlot i req notify).sched =
      s.sched := rfl
@[simp] theorem State.fillSlot_engine (s : State) (i : SlotId) (req : DelayedReq) (notify : Bool) :
    (s.fillSlot i req notify).engine =
      s.engine := rfl
@[simp] theorem State.fillSlot_seg (s : State) (i : SlotId) (req : DelayedReq) (notify : Bool) :
    (s.fillSlot i req notify).seg =
      s.seg := rfl
@[simp] theorem State.fillSlot_segRst (s : State) (i : SlotId) (req : DelayedReq) (notify : Bool) :
    (s.fillSlot i req notify).segRst =
      s.segRst := rfl
@[simp] theorem State.fillSlot_segAttn (s : State) (i : SlotId) (req : DelayedReq) (notify : Bool) :
    (s.fillSlot i req notify).segAttn =
      s.segAttn := rfl
@[simp] theorem State.fillSlot_nodes (s : State) (i : SlotId) (req : DelayedReq) (notify : Bool) :
    (s.fillSlot i req notify).nodes =
      s.nodes := rfl
@[simp] theorem State.fillSlot_attn (s : State) (i : SlotId) (req : DelayedReq) (notify : Bool) :
    (s.fillSlot i req notify).attn =
      s.attn := rfl
@[simp] theorem State.fillSlot_notices (s : State) (i : SlotId) (req : DelayedReq) (notify : Bool) :
    (s.fillSlot i req notify).notices =
      s.notices := rfl
@[simp] theorem State.fillSlot_link (s : State) (i : SlotId) (req : DelayedReq) (notify : Bool) :
    (s.fillSlot i req notify).link =
      s.link := rfl
@[simp] theorem State.fillSlot_params (s : State) (i : SlotId) (req : DelayedReq) (notify : Bool) :
    (s.fillSlot i req notify).params =
      s.params := rfl
@[simp] theorem State.fillSlot_counters (s : State) (i : SlotId) (req : DelayedReq) (notify : Bool) :
    (s.fillSlot i req notify).counters =
      s.counters := rfl
@[simp] theorem State.fillSlot_pending (s : State) (i : SlotId) (req : DelayedReq) (notify : Bool) :
    (s.fillSlot i req notify).pending =
      s.pending := rfl

/-! ### freeSlot -/

@[simp] theorem State.freeSlot_held (s : State) (i : SlotId) : (s.freeSlot i).held = s.held := rfl
@[simp] theorem State.freeSlot_pwq (s : State) (i : SlotId) : (s.freeSlot i).pwq = s.pwq := rfl
@[simp] theorem State.freeSlot_drt (s : State) (i : SlotId) :
    (s.freeSlot i).drt =
      { slots := s.drt.slots.set i none, order := s.drt.order.filter (· != i) } := rfl
@[simp] theorem State.freeSlot_sched (s : State) (i : SlotId) : (s.freeSlot i).sched = s.sched := rfl
@[simp] theorem State.freeSlot_engine (s : State) (i : SlotId) : (s.freeSlot i).engine = s.engine := rfl
@[simp] theorem State.freeSlot_seg (s : State) (i : SlotId) : (s.freeSlot i).seg = s.seg := rfl
@[simp] theorem State.freeSlot_segRst (s : State) (i : SlotId) : (s.freeSlot i).segRst = s.segRst := rfl
@[simp] theorem State.freeSlot_segAttn (s : State) (i : SlotId) : (s.freeSlot i).segAttn = s.segAttn := rfl
@[simp] theorem State.freeSlot_nodes (s : State) (i : SlotId) : (s.freeSlot i).nodes = s.nodes := rfl
@[simp] theorem State.freeSlot_attn (s : State) (i : SlotId) : (s.freeSlot i).attn = s.attn := rfl
@[simp] theorem State.freeSlot_notices (s : State) (i : SlotId) :
    (s.freeSlot i).notices =
      s.notices.removeHint i := rfl
@[simp] theorem State.freeSlot_link (s : State) (i : SlotId) : (s.freeSlot i).link = s.link := rfl
@[simp] theorem State.freeSlot_params (s : State) (i : SlotId) : (s.freeSlot i).params = s.params := rfl
@[simp] theorem State.freeSlot_counters (s : State) (i : SlotId) : (s.freeSlot i).counters = s.counters := rfl
@[simp] theorem State.freeSlot_pending (s : State) (i : SlotId) : (s.freeSlot i).pending = s.pending := rfl

/-! ### completeWith -/

@[simp] theorem State.completeWith_held (s : State) (i : SlotId) (sl : Slot) (r : ResultStatus) :
    (s.completeWith i sl r).held =
      s.held := rfl
@[simp] theorem State.completeWith_pwq (s : State) (i : SlotId) (sl : Slot) (r : ResultStatus) :
    (s.completeWith i sl r).pwq =
      s.pwq := rfl
@[simp] theorem State.completeWith_drt (s : State) (i : SlotId) (sl : Slot) (r : ResultStatus) :
    (s.completeWith i sl r).drt =
      { slots := s.drt.slots.set i (some (sl.completed r s.notices.newest s.params.discardTime))
        order := s.drt.order.filter (· != i) } := rfl
@[simp] theorem State.completeWith_sched (s : State) (i : SlotId) (sl : Slot) (r : ResultStatus) :
    (s.completeWith i sl r).sched =
      s.sched := rfl
@[simp] theorem State.completeWith_engine (s : State) (i : SlotId) (sl : Slot) (r : ResultStatus) :
    (s.completeWith i sl r).engine =
      s.engine := rfl
@[simp] theorem State.completeWith_seg (s : State) (i : SlotId) (sl : Slot) (r : ResultStatus) :
    (s.completeWith i sl r).seg =
      s.seg := rfl
@[simp] theorem State.completeWith_segRst (s : State) (i : SlotId) (sl : Slot) (r : ResultStatus) :
    (s.completeWith i sl r).segRst =
      s.segRst := rfl
@[simp] theorem State.completeWith_segAttn (s : State) (i : SlotId) (sl : Slot) (r : ResultStatus) :
    (s.completeWith i sl r).segAttn =
      s.segAttn := rfl
@[simp] theorem State.completeWith_nodes (s : State) (i : SlotId) (sl : Slot) (r : ResultStatus) :
    (s.completeWith i sl r).nodes =
      s.nodes := rfl
@[simp] theorem State.completeWith_attn (s : State) (i : SlotId) (sl : Slot) (r : ResultStatus) :
    (s.completeWith i sl r).attn =
      s.attn := rfl
@[simp] theorem State.completeWith_notices (s : State) (i : SlotId) (sl : Slot) (r : ResultStatus) :
    (s.completeWith i sl r).notices =
      if sl.notify then s.notices.addHint i else s.notices := rfl
@[simp] theorem State.completeWith_link (s : State) (i : SlotId) (sl : Slot) (r : ResultStatus) :
    (s.completeWith i sl r).link =
      s.link := rfl
@[simp] theorem State.completeWith_params (s : State) (i : SlotId) (sl : Slot) (r : ResultStatus) :
    (s.completeWith i sl r).params =
      s.params := rfl
@[simp] theorem State.completeWith_counters (s : State) (i : SlotId) (sl : Slot) (r : ResultStatus) :
    (s.completeWith i sl r).counters =
      { s.counters with delayedCompleted := s.counters.delayedCompleted + 1 } := rfl
@[simp] theorem State.completeWith_pending (s : State) (i : SlotId) (sl : Slot) (r : ResultStatus) :
    (s.completeWith i sl r).pending =
      s.pending := rfl

/-! ### release -/

@[simp] theorem State.release_held (s : State) : s.release.held = s.held := rfl
@[simp] theorem State.release_pwq (s : State) : s.release.pwq = s.pwq := rfl
@[simp] theorem State.release_drt (s : State) : s.release.drt = s.drt := rfl
@[simp] theorem State.release_sched (s : State) : s.release.sched = s.sched := rfl
@[simp] theorem State.release_engine (s : State) :
    s.release.engine =
      { txn := none, turnaround := some Config.turnaround } := rfl
@[simp] theorem State.release_seg (s : State) : s.release.seg = s.seg := rfl
@[simp] theorem State.release_segRst (s : State) : s.release.segRst = s.segRst := rfl
@[simp] theorem State.release_segAttn (s : State) : s.release.segAttn = s.segAttn := rfl
@[simp] theorem State.release_nodes (s : State) : s.release.nodes = s.nodes := rfl
@[simp] theorem State.release_attn (s : State) : s.release.attn = s.attn := rfl
@[simp] theorem State.release_notices (s : State) : s.release.notices = s.notices := rfl
@[simp] theorem State.release_link (s : State) : s.release.link = s.link := rfl
@[simp] theorem State.release_params (s : State) : s.release.params = s.params := rfl
@[simp] theorem State.release_counters (s : State) : s.release.counters = s.counters := rfl
@[simp] theorem State.release_pending (s : State) : s.release.pending = s.pending := rfl

/-! ### removeAbsentMembers -/

@[simp] theorem State.removeAbsentMembers_held (s : State) : s.removeAbsentMembers.held = s.held := rfl
@[simp] theorem State.removeAbsentMembers_pwq (s : State) : s.removeAbsentMembers.pwq = s.pwq := rfl
@[simp] theorem State.removeAbsentMembers_drt (s : State) : s.removeAbsentMembers.drt = s.drt := rfl
@[simp] theorem State.removeAbsentMembers_sched (s : State) : s.removeAbsentMembers.sched = s.sched := rfl
@[simp] theorem State.removeAbsentMembers_engine (s : State) : s.removeAbsentMembers.engine = s.engine := rfl
@[simp] theorem State.removeAbsentMembers_seg (s : State) : s.removeAbsentMembers.seg = s.seg := rfl
@[simp] theorem State.removeAbsentMembers_segRst (s : State) : s.removeAbsentMembers.segRst = s.segRst := rfl
@[simp] theorem State.removeAbsentMembers_segAttn (s : State) : s.removeAbsentMembers.segAttn = s.segAttn := rfl
@[simp] theorem State.removeAbsentMembers_nodes (s : State) : s.removeAbsentMembers.nodes = s.nodes := rfl
@[simp] theorem State.removeAbsentMembers_attn (s : State) :
    s.removeAbsentMembers.attn =
      { s.attn with members := s.attn.members.filter fun m => !s.absent m.node } := rfl
@[simp] theorem State.removeAbsentMembers_notices (s : State) : s.removeAbsentMembers.notices = s.notices := rfl
@[simp] theorem State.removeAbsentMembers_link (s : State) : s.removeAbsentMembers.link = s.link := rfl
@[simp] theorem State.removeAbsentMembers_params (s : State) : s.removeAbsentMembers.params = s.params := rfl
@[simp] theorem State.removeAbsentMembers_counters (s : State) : s.removeAbsentMembers.counters = s.counters := rfl
@[simp] theorem State.removeAbsentMembers_pending (s : State) : s.removeAbsentMembers.pending = s.pending := rfl

/-! ### badFrame -/

@[simp] theorem State.badFrame_held (s : State) : s.badFrame.held = s.held := rfl
@[simp] theorem State.badFrame_pwq (s : State) : s.badFrame.pwq = s.pwq := rfl
@[simp] theorem State.badFrame_drt (s : State) : s.badFrame.drt = s.drt := rfl
@[simp] theorem State.badFrame_sched (s : State) : s.badFrame.sched = s.sched := rfl
@[simp] theorem State.badFrame_engine (s : State) : s.badFrame.engine = s.engine := rfl
@[simp] theorem State.badFrame_seg (s : State) : s.badFrame.seg = s.seg := rfl
@[simp] theorem State.badFrame_segRst (s : State) : s.badFrame.segRst = s.segRst := rfl
@[simp] theorem State.badFrame_segAttn (s : State) : s.badFrame.segAttn = s.segAttn := rfl
@[simp] theorem State.badFrame_nodes (s : State) : s.badFrame.nodes = s.nodes := rfl
@[simp] theorem State.badFrame_attn (s : State) : s.badFrame.attn = s.attn := rfl
@[simp] theorem State.badFrame_notices (s : State) : s.badFrame.notices = s.notices := rfl
@[simp] theorem State.badFrame_link (s : State) :
    s.badFrame.link =
      { s.link with framer := .hunt, nakPending := true } := rfl
@[simp] theorem State.badFrame_params (s : State) : s.badFrame.params = s.params := rfl
@[simp] theorem State.badFrame_counters (s : State) :
    s.badFrame.counters =
      { s.counters with badFrames := s.counters.badFrames + 1 } := rfl
@[simp] theorem State.badFrame_pending (s : State) : s.badFrame.pending = s.pending := rfl

/-! ### placeFrame -/

@[simp] theorem State.placeFrame_held (s : State) (f : Frame) : (s.placeFrame f).held = s.held := rfl
@[simp] theorem State.placeFrame_pwq (s : State) (f : Frame) : (s.placeFrame f).pwq = s.pwq := rfl
@[simp] theorem State.placeFrame_drt (s : State) (f : Frame) : (s.placeFrame f).drt = s.drt := rfl
@[simp] theorem State.placeFrame_sched (s : State) (f : Frame) : (s.placeFrame f).sched = s.sched := rfl
@[simp] theorem State.placeFrame_engine (s : State) (f : Frame) : (s.placeFrame f).engine = s.engine := rfl
@[simp] theorem State.placeFrame_seg (s : State) (f : Frame) : (s.placeFrame f).seg = s.seg := rfl
@[simp] theorem State.placeFrame_segRst (s : State) (f : Frame) : (s.placeFrame f).segRst = s.segRst := rfl
@[simp] theorem State.placeFrame_segAttn (s : State) (f : Frame) : (s.placeFrame f).segAttn = s.segAttn := rfl
@[simp] theorem State.placeFrame_nodes (s : State) (f : Frame) : (s.placeFrame f).nodes = s.nodes := rfl
@[simp] theorem State.placeFrame_attn (s : State) (f : Frame) : (s.placeFrame f).attn = s.attn := rfl
@[simp] theorem State.placeFrame_notices (s : State) (f : Frame) : (s.placeFrame f).notices = s.notices := rfl
@[simp] theorem State.placeFrame_link (s : State) (f : Frame) :
    (s.placeFrame f).link =
      { s.link with framer := .hunt, newestPlaced := some f.seq
                    places := s.link.places ++ [{ frame := f, state := .waiting }] } := rfl
@[simp] theorem State.placeFrame_params (s : State) (f : Frame) : (s.placeFrame f).params = s.params := rfl
@[simp] theorem State.placeFrame_counters (s : State) (f : Frame) : (s.placeFrame f).counters = s.counters := rfl
@[simp] theorem State.placeFrame_pending (s : State) (f : Frame) : (s.placeFrame f).pending = s.pending := rfl

/-! ### overrun -/

@[simp] theorem State.overrun_held (s : State) (f : Frame) : (s.overrun f).held = s.held := rfl
@[simp] theorem State.overrun_pwq (s : State) (f : Frame) : (s.overrun f).pwq = s.pwq := rfl
@[simp] theorem State.overrun_drt (s : State) (f : Frame) : (s.overrun f).drt = s.drt := rfl
@[simp] theorem State.overrun_sched (s : State) (f : Frame) : (s.overrun f).sched = s.sched := rfl
@[simp] theorem State.overrun_engine (s : State) (f : Frame) : (s.overrun f).engine = s.engine := rfl
@[simp] theorem State.overrun_seg (s : State) (f : Frame) : (s.overrun f).seg = s.seg := rfl
@[simp] theorem State.overrun_segRst (s : State) (f : Frame) : (s.overrun f).segRst = s.segRst := rfl
@[simp] theorem State.overrun_segAttn (s : State) (f : Frame) : (s.overrun f).segAttn = s.segAttn := rfl
@[simp] theorem State.overrun_nodes (s : State) (f : Frame) : (s.overrun f).nodes = s.nodes := rfl
@[simp] theorem State.overrun_attn (s : State) (f : Frame) : (s.overrun f).attn = s.attn := rfl
@[simp] theorem State.overrun_notices (s : State) (f : Frame) :
    (s.overrun f).notices =
      s.notices.enterFault (.linkOverrun f.seq) := rfl
@[simp] theorem State.overrun_link (s : State) (f : Frame) :
    (s.overrun f).link =
      { s.link with framer := .hunt } := rfl
@[simp] theorem State.overrun_params (s : State) (f : Frame) : (s.overrun f).params = s.params := rfl
@[simp] theorem State.overrun_counters (s : State) (f : Frame) :
    (s.overrun f).counters =
      { s.counters with overruns := s.counters.overruns + 1 } := rfl
@[simp] theorem State.overrun_pending (s : State) (f : Frame) : (s.overrun f).pending = s.pending := rfl

/-! ### replayAnswer -/

@[simp] theorem State.replayAnswer_held (s : State) (a : StoredAnswer) : (s.replayAnswer a).held = s.held := rfl
@[simp] theorem State.replayAnswer_pwq (s : State) (a : StoredAnswer) : (s.replayAnswer a).pwq = s.pwq := rfl
@[simp] theorem State.replayAnswer_drt (s : State) (a : StoredAnswer) : (s.replayAnswer a).drt = s.drt := rfl
@[simp] theorem State.replayAnswer_sched (s : State) (a : StoredAnswer) : (s.replayAnswer a).sched = s.sched := rfl
@[simp] theorem State.replayAnswer_engine (s : State) (a : StoredAnswer) : (s.replayAnswer a).engine = s.engine := rfl
@[simp] theorem State.replayAnswer_seg (s : State) (a : StoredAnswer) : (s.replayAnswer a).seg = s.seg := rfl
@[simp] theorem State.replayAnswer_segRst (s : State) (a : StoredAnswer) : (s.replayAnswer a).segRst = s.segRst := rfl
@[simp] theorem State.replayAnswer_segAttn (s : State) (a : StoredAnswer) :
    (s.replayAnswer a).segAttn =
      s.segAttn := rfl
@[simp] theorem State.replayAnswer_nodes (s : State) (a : StoredAnswer) : (s.replayAnswer a).nodes = s.nodes := rfl
@[simp] theorem State.replayAnswer_attn (s : State) (a : StoredAnswer) : (s.replayAnswer a).attn = s.attn := rfl
@[simp] theorem State.replayAnswer_notices (s : State) (a : StoredAnswer) :
    (s.replayAnswer a).notices =
      s.notices := rfl
@[simp] theorem State.replayAnswer_link (s : State) (a : StoredAnswer) :
    (s.replayAnswer a).link =
      { s.link with places := answerFirst a s.link.places } := rfl
@[simp] theorem State.replayAnswer_params (s : State) (a : StoredAnswer) : (s.replayAnswer a).params = s.params := rfl
@[simp] theorem State.replayAnswer_counters (s : State) (a : StoredAnswer) :
    (s.replayAnswer a).counters =
      { s.counters with replays := s.counters.replays + 1 } := rfl
@[simp] theorem State.replayAnswer_pending (s : State) (a : StoredAnswer) :
    (s.replayAnswer a).pending =
      s.pending := rfl

/-! ### giveAnswer -/

@[simp] theorem State.giveAnswer_held (s : State) (seq type : Byte) (a : Answer) :
    (s.giveAnswer seq type a).held =
      s.held := rfl
@[simp] theorem State.giveAnswer_pwq (s : State) (seq type : Byte) (a : Answer) :
    (s.giveAnswer seq type a).pwq =
      s.pwq := rfl
@[simp] theorem State.giveAnswer_drt (s : State) (seq type : Byte) (a : Answer) :
    (s.giveAnswer seq type a).drt =
      s.drt := rfl
@[simp] theorem State.giveAnswer_sched (s : State) (seq type : Byte) (a : Answer) :
    (s.giveAnswer seq type a).sched =
      s.sched := rfl
@[simp] theorem State.giveAnswer_engine (s : State) (seq type : Byte) (a : Answer) :
    (s.giveAnswer seq type a).engine =
      s.engine := rfl
@[simp] theorem State.giveAnswer_seg (s : State) (seq type : Byte) (a : Answer) :
    (s.giveAnswer seq type a).seg =
      s.seg := rfl
@[simp] theorem State.giveAnswer_segRst (s : State) (seq type : Byte) (a : Answer) :
    (s.giveAnswer seq type a).segRst =
      s.segRst := rfl
@[simp] theorem State.giveAnswer_segAttn (s : State) (seq type : Byte) (a : Answer) :
    (s.giveAnswer seq type a).segAttn =
      s.segAttn := rfl
@[simp] theorem State.giveAnswer_nodes (s : State) (seq type : Byte) (a : Answer) :
    (s.giveAnswer seq type a).nodes =
      s.nodes := rfl
@[simp] theorem State.giveAnswer_attn (s : State) (seq type : Byte) (a : Answer) :
    (s.giveAnswer seq type a).attn =
      s.attn := rfl
@[simp] theorem State.giveAnswer_notices (s : State) (seq type : Byte) (a : Answer) :
    (s.giveAnswer seq type a).notices =
      s.notices := rfl
@[simp] theorem State.giveAnswer_link (s : State) (seq type : Byte) (a : Answer) :
    (s.giveAnswer seq type a).link =
      { s.link with places := answerFirst { seq := seq, type := type, answer := a } s.link.places
                    store := enterAnswer s.link.store { seq := seq, type := type, answer := a } } := rfl
@[simp] theorem State.giveAnswer_params (s : State) (seq type : Byte) (a : Answer) :
    (s.giveAnswer seq type a).params =
      s.params := rfl
@[simp] theorem State.giveAnswer_counters (s : State) (seq type : Byte) (a : Answer) :
    (s.giveAnswer seq type a).counters =
      if a.isRefusal then { s.counters with refusals := s.counters.refusals + 1 } else s.counters := rfl
@[simp] theorem State.giveAnswer_pending (s : State) (seq type : Byte) (a : Answer) :
    (s.giveAnswer seq type a).pending =
      s.pending := rfl

/-! ### segEnterResetting -/

@[simp] theorem State.segEnterResetting_held (s : State) (cause : RestartCause) :
    (s.segEnterResetting cause).held =
      s.held := rfl
@[simp] theorem State.segEnterResetting_pwq (s : State) (cause : RestartCause) :
    (s.segEnterResetting cause).pwq =
      s.pwq := rfl
@[simp] theorem State.segEnterResetting_drt (s : State) (cause : RestartCause) :
    (s.segEnterResetting cause).drt =
      s.drt := rfl
@[simp] theorem State.segEnterResetting_sched (s : State) (cause : RestartCause) :
    (s.segEnterResetting cause).sched =
      s.sched := rfl
@[simp] theorem State.segEnterResetting_engine (s : State) (cause : RestartCause) :
    (s.segEnterResetting cause).engine =
      s.engine := rfl
@[simp] theorem State.segEnterResetting_seg (s : State) (cause : RestartCause) :
    (s.segEnterResetting cause).seg =
      { s.seg with state := .resetting, hold := some s.params.segResetHold, settle := none, cause := cause } := rfl
@[simp] theorem State.segEnterResetting_segRst (s : State) (cause : RestartCause) :
    (s.segEnterResetting cause).segRst =
      true := rfl
@[simp] theorem State.segEnterResetting_segAttn (s : State) (cause : RestartCause) :
    (s.segEnterResetting cause).segAttn =
      s.segAttn := rfl
@[simp] theorem State.segEnterResetting_nodes (s : State) (cause : RestartCause) :
    (s.segEnterResetting cause).nodes =
      s.nodes := rfl
@[simp] theorem State.segEnterResetting_attn (s : State) (cause : RestartCause) :
    (s.segEnterResetting cause).attn =
      s.attn := rfl
@[simp] theorem State.segEnterResetting_notices (s : State) (cause : RestartCause) :
    (s.segEnterResetting cause).notices =
      s.notices := rfl
@[simp] theorem State.segEnterResetting_link (s : State) (cause : RestartCause) :
    (s.segEnterResetting cause).link =
      s.link := rfl
@[simp] theorem State.segEnterResetting_params (s : State) (cause : RestartCause) :
    (s.segEnterResetting cause).params =
      s.params := rfl
@[simp] theorem State.segEnterResetting_counters (s : State) (cause : RestartCause) :
    (s.segEnterResetting cause).counters =
      s.counters := rfl
@[simp] theorem State.segEnterResetting_pending (s : State) (cause : RestartCause) :
    (s.segEnterResetting cause).pending =
      s.pending := rfl

/-! ### abandon -/

@[simp] theorem State.abandon_held (s : State) : s.abandon.held = s.held := rfl
@[simp] theorem State.abandon_pwq (s : State) : s.abandon.pwq = s.pwq := rfl
@[simp] theorem State.abandon_drt (s : State) : s.abandon.drt = s.drt := rfl
@[simp] theorem State.abandon_sched (s : State) : s.abandon.sched = { delayedShare := 0, collectShare := 0 } := rfl
@[simp] theorem State.abandon_engine (s : State) : s.abandon.engine = { txn := none, turnaround := none } := rfl
@[simp] theorem State.abandon_seg (s : State) : s.abandon.seg = s.seg := rfl
@[simp] theorem State.abandon_segRst (s : State) : s.abandon.segRst = s.segRst := rfl
@[simp] theorem State.abandon_segAttn (s : State) : s.abandon.segAttn = s.segAttn := rfl
@[simp] theorem State.abandon_nodes (s : State) : s.abandon.nodes = s.nodes := rfl
@[simp] theorem State.abandon_attn (s : State) : s.abandon.attn = s.attn := rfl
@[simp] theorem State.abandon_notices (s : State) : s.abandon.notices = s.notices := rfl
@[simp] theorem State.abandon_link (s : State) : s.abandon.link = s.link := rfl
@[simp] theorem State.abandon_params (s : State) : s.abandon.params = s.params := rfl
@[simp] theorem State.abandon_counters (s : State) : s.abandon.counters = s.counters := rfl
@[simp] theorem State.abandon_pending (s : State) : s.abandon.pending = s.pending := rfl

/-! ### clearStamps -/

@[simp] theorem State.clearStamps_held (s : State) : s.clearStamps.held = s.held := rfl
@[simp] theorem State.clearStamps_pwq (s : State) : s.clearStamps.pwq = s.pwq := rfl
@[simp] theorem State.clearStamps_drt (s : State) :
    s.clearStamps.drt =
      s.drt.mapSlots fun sl => { sl with postingStamp := none } := rfl
@[simp] theorem State.clearStamps_sched (s : State) : s.clearStamps.sched = s.sched := rfl
@[simp] theorem State.clearStamps_engine (s : State) : s.clearStamps.engine = s.engine := rfl
@[simp] theorem State.clearStamps_seg (s : State) : s.clearStamps.seg = s.seg := rfl
@[simp] theorem State.clearStamps_segRst (s : State) : s.clearStamps.segRst = s.segRst := rfl
@[simp] theorem State.clearStamps_segAttn (s : State) : s.clearStamps.segAttn = s.segAttn := rfl
@[simp] theorem State.clearStamps_nodes (s : State) : s.clearStamps.nodes = s.nodes := rfl
@[simp] theorem State.clearStamps_attn (s : State) : s.clearStamps.attn = s.attn := rfl
@[simp] theorem State.clearStamps_notices (s : State) : s.clearStamps.notices = s.notices := rfl
@[simp] theorem State.clearStamps_link (s : State) : s.clearStamps.link = s.link := rfl
@[simp] theorem State.clearStamps_params (s : State) : s.clearStamps.params = s.params := rfl
@[simp] theorem State.clearStamps_counters (s : State) : s.clearStamps.counters = s.counters := rfl
@[simp] theorem State.clearStamps_pending (s : State) : s.clearStamps.pending = s.pending := rfl

/-! ### resetLearned -/

@[simp] theorem State.resetLearned_held (s : State) : s.resetLearned.held = s.held := rfl
@[simp] theorem State.resetLearned_pwq (s : State) : s.resetLearned.pwq = s.pwq := rfl
@[simp] theorem State.resetLearned_drt (s : State) : s.resetLearned.drt = s.drt := rfl
@[simp] theorem State.resetLearned_sched (s : State) : s.resetLearned.sched = s.sched := rfl
@[simp] theorem State.resetLearned_engine (s : State) : s.resetLearned.engine = s.engine := rfl
@[simp] theorem State.resetLearned_seg (s : State) : s.resetLearned.seg = s.seg := rfl
@[simp] theorem State.resetLearned_segRst (s : State) : s.resetLearned.segRst = s.segRst := rfl
@[simp] theorem State.resetLearned_segAttn (s : State) : s.resetLearned.segAttn = s.segAttn := rfl
@[simp] theorem State.resetLearned_nodes (s : State) : s.resetLearned.nodes = s.nodes.map NodeRecord.reset := rfl
@[simp] theorem State.resetLearned_attn (s : State) :
    s.resetLearned.attn =
      { members := [], pointer := none, holdoff := none } := rfl
@[simp] theorem State.resetLearned_notices (s : State) : s.resetLearned.notices = s.notices := rfl
@[simp] theorem State.resetLearned_link (s : State) : s.resetLearned.link = s.link := rfl
@[simp] theorem State.resetLearned_params (s : State) : s.resetLearned.params = s.params := rfl
@[simp] theorem State.resetLearned_counters (s : State) : s.resetLearned.counters = s.counters := rfl
@[simp] theorem State.resetLearned_pending (s : State) : s.resetLearned.pending = s.pending := rfl

/-! ### releaseSegment -/

@[simp] theorem State.releaseSegment_held (s : State) : s.releaseSegment.held = s.held := rfl
@[simp] theorem State.releaseSegment_pwq (s : State) : s.releaseSegment.pwq = s.pwq := rfl
@[simp] theorem State.releaseSegment_drt (s : State) : s.releaseSegment.drt = s.drt := rfl
@[simp] theorem State.releaseSegment_sched (s : State) : s.releaseSegment.sched = s.sched := rfl
@[simp] theorem State.releaseSegment_engine (s : State) : s.releaseSegment.engine = s.engine := rfl
@[simp] theorem State.releaseSegment_seg (s : State) :
    s.releaseSegment.seg =
      { s.seg with state := .settling, hold := none, settle := some s.params.segSettle, bitRate := some s.params.segBitRate } := rfl
@[simp] theorem State.releaseSegment_segRst (s : State) : s.releaseSegment.segRst = false := rfl
@[simp] theorem State.releaseSegment_segAttn (s : State) : s.releaseSegment.segAttn = s.segAttn := rfl
@[simp] theorem State.releaseSegment_nodes (s : State) : s.releaseSegment.nodes = s.nodes := rfl
@[simp] theorem State.releaseSegment_attn (s : State) : s.releaseSegment.attn = s.attn := rfl
@[simp] theorem State.releaseSegment_notices (s : State) : s.releaseSegment.notices = s.notices := rfl
@[simp] theorem State.releaseSegment_link (s : State) : s.releaseSegment.link = s.link := rfl
@[simp] theorem State.releaseSegment_params (s : State) : s.releaseSegment.params = s.params := rfl
@[simp] theorem State.releaseSegment_counters (s : State) : s.releaseSegment.counters = s.counters := rfl
@[simp] theorem State.releaseSegment_pending (s : State) : s.releaseSegment.pending = s.pending := rfl

/-! ### linkReset -/

@[simp] theorem State.linkReset_held (s : State) : s.linkReset.held = s.held := rfl
@[simp] theorem State.linkReset_pwq (s : State) : s.linkReset.pwq = s.pwq := rfl
@[simp] theorem State.linkReset_drt (s : State) : s.linkReset.drt = s.drt := rfl
@[simp] theorem State.linkReset_sched (s : State) : s.linkReset.sched = s.sched := rfl
@[simp] theorem State.linkReset_engine (s : State) : s.linkReset.engine = s.engine := rfl
@[simp] theorem State.linkReset_seg (s : State) : s.linkReset.seg = s.seg := rfl
@[simp] theorem State.linkReset_segRst (s : State) : s.linkReset.segRst = s.segRst := rfl
@[simp] theorem State.linkReset_segAttn (s : State) : s.linkReset.segAttn = s.segAttn := rfl
@[simp] theorem State.linkReset_nodes (s : State) : s.linkReset.nodes = s.nodes := rfl
@[simp] theorem State.linkReset_attn (s : State) : s.linkReset.attn = s.attn := rfl
@[simp] theorem State.linkReset_notices (s : State) : s.linkReset.notices = s.notices.rewind := rfl
@[simp] theorem State.linkReset_link (s : State) :
    s.linkReset.link =
      { s.link with framer := .hunt, newestPlaced := none, places := [], store := [], nakPending := false, tx := none } := rfl
@[simp] theorem State.linkReset_params (s : State) : s.linkReset.params = s.params := rfl
@[simp] theorem State.linkReset_counters (s : State) : s.linkReset.counters = s.counters := rfl
@[simp] theorem State.linkReset_pending (s : State) : s.linkReset.pending = s.pending := rfl

/-! ### holdInReset -/

@[simp] theorem State.holdInReset_held (s : State) (cause : ResetCause) :
    (s.holdInReset cause).held =
      some cause := rfl
@[simp] theorem State.holdInReset_pwq (s : State) (cause : ResetCause) : (s.holdInReset cause).pwq = s.pwq := rfl
@[simp] theorem State.holdInReset_drt (s : State) (cause : ResetCause) : (s.holdInReset cause).drt = s.drt := rfl
@[simp] theorem State.holdInReset_sched (s : State) (cause : ResetCause) :
    (s.holdInReset cause).sched =
      s.sched := rfl
@[simp] theorem State.holdInReset_engine (s : State) (cause : ResetCause) :
    (s.holdInReset cause).engine =
      { txn := none, turnaround := none } := rfl
@[simp] theorem State.holdInReset_seg (s : State) (cause : ResetCause) : (s.holdInReset cause).seg = s.seg := rfl
@[simp] theorem State.holdInReset_segRst (s : State) (cause : ResetCause) : (s.holdInReset cause).segRst = true := rfl
@[simp] theorem State.holdInReset_segAttn (s : State) (cause : ResetCause) :
    (s.holdInReset cause).segAttn =
      s.segAttn := rfl
@[simp] theorem State.holdInReset_nodes (s : State) (cause : ResetCause) :
    (s.holdInReset cause).nodes =
      s.nodes := rfl
@[simp] theorem State.holdInReset_attn (s : State) (cause : ResetCause) : (s.holdInReset cause).attn = s.attn := rfl
@[simp] theorem State.holdInReset_notices (s : State) (cause : ResetCause) :
    (s.holdInReset cause).notices =
      s.notices := rfl
@[simp] theorem State.holdInReset_link (s : State) (cause : ResetCause) :
    (s.holdInReset cause).link =
      { s.link with tx := none } := rfl
@[simp] theorem State.holdInReset_params (s : State) (cause : ResetCause) :
    (s.holdInReset cause).params =
      s.params := rfl
@[simp] theorem State.holdInReset_counters (s : State) (cause : ResetCause) :
    (s.holdInReset cause).counters =
      s.counters := rfl
@[simp] theorem State.holdInReset_pending (s : State) (cause : ResetCause) :
    (s.holdInReset cause).pending =
      s.pending := rfl

/-! ### setTxn -/

@[simp] theorem State.setTxn_held (s : State) (t : Transaction) : (s.setTxn t).held = s.held := rfl
@[simp] theorem State.setTxn_pwq (s : State) (t : Transaction) : (s.setTxn t).pwq = s.pwq := rfl
@[simp] theorem State.setTxn_drt (s : State) (t : Transaction) : (s.setTxn t).drt = s.drt := rfl
@[simp] theorem State.setTxn_sched (s : State) (t : Transaction) : (s.setTxn t).sched = s.sched := rfl
@[simp] theorem State.setTxn_engine (s : State) (t : Transaction) :
    (s.setTxn t).engine =
      { s.engine with txn := some t } := rfl
@[simp] theorem State.setTxn_seg (s : State) (t : Transaction) : (s.setTxn t).seg = s.seg := rfl
@[simp] theorem State.setTxn_segRst (s : State) (t : Transaction) : (s.setTxn t).segRst = s.segRst := rfl
@[simp] theorem State.setTxn_segAttn (s : State) (t : Transaction) : (s.setTxn t).segAttn = s.segAttn := rfl
@[simp] theorem State.setTxn_nodes (s : State) (t : Transaction) : (s.setTxn t).nodes = s.nodes := rfl
@[simp] theorem State.setTxn_attn (s : State) (t : Transaction) : (s.setTxn t).attn = s.attn := rfl
@[simp] theorem State.setTxn_notices (s : State) (t : Transaction) : (s.setTxn t).notices = s.notices := rfl
@[simp] theorem State.setTxn_link (s : State) (t : Transaction) : (s.setTxn t).link = s.link := rfl
@[simp] theorem State.setTxn_params (s : State) (t : Transaction) : (s.setTxn t).params = s.params := rfl
@[simp] theorem State.setTxn_counters (s : State) (t : Transaction) : (s.setTxn t).counters = s.counters := rfl
@[simp] theorem State.setTxn_pending (s : State) (t : Transaction) : (s.setTxn t).pending = s.pending := rfl

/-! ### surveyOutcome -/

@[simp] theorem State.surveyOutcome_held (s : State) (marked : List NodeId) :
    (s.surveyOutcome marked).held =
      s.held := rfl
@[simp] theorem State.surveyOutcome_pwq (s : State) (marked : List NodeId) :
    (s.surveyOutcome marked).pwq =
      s.pwq := rfl
@[simp] theorem State.surveyOutcome_drt (s : State) (marked : List NodeId) :
    (s.surveyOutcome marked).drt =
      s.drt := rfl
@[simp] theorem State.surveyOutcome_sched (s : State) (marked : List NodeId) :
    (s.surveyOutcome marked).sched =
      s.sched := rfl
@[simp] theorem State.surveyOutcome_engine (s : State) (marked : List NodeId) :
    (s.surveyOutcome marked).engine =
      s.engine := rfl
@[simp] theorem State.surveyOutcome_seg (s : State) (marked : List NodeId) :
    (s.surveyOutcome marked).seg =
      s.seg := rfl
@[simp] theorem State.surveyOutcome_segRst (s : State) (marked : List NodeId) :
    (s.surveyOutcome marked).segRst =
      s.segRst := rfl
@[simp] theorem State.surveyOutcome_segAttn (s : State) (marked : List NodeId) :
    (s.surveyOutcome marked).segAttn =
      s.segAttn := rfl
@[simp] theorem State.surveyOutcome_nodes (s : State) (marked : List NodeId) :
    (s.surveyOutcome marked).nodes =
      s.nodes := rfl
@[simp] theorem State.surveyOutcome_attn (s : State) (marked : List NodeId) :
    (s.surveyOutcome marked).attn =
      { s.attn with members := marked.map fun n => { node := n, repeatMark := false }
                    holdoff := if marked.isEmpty then some s.params.surveyHoldoff else s.attn.holdoff } := rfl
@[simp] theorem State.surveyOutcome_notices (s : State) (marked : List NodeId) :
    (s.surveyOutcome marked).notices =
      s.notices := rfl
@[simp] theorem State.surveyOutcome_link (s : State) (marked : List NodeId) :
    (s.surveyOutcome marked).link =
      s.link := rfl
@[simp] theorem State.surveyOutcome_params (s : State) (marked : List NodeId) :
    (s.surveyOutcome marked).params =
      s.params := rfl
@[simp] theorem State.surveyOutcome_counters (s : State) (marked : List NodeId) :
    (s.surveyOutcome marked).counters =
      s.counters := rfl
@[simp] theorem State.surveyOutcome_pending (s : State) (marked : List NodeId) :
    (s.surveyOutcome marked).pending =
      s.pending := rfl

/-! ### surveyMarks -/

@[simp] theorem State.surveyMarks_held (s : State) (marked : List NodeId) :
    (s.surveyMarks marked).held =
      s.held := by simp only [State.surveyMarks]
@[simp] theorem State.surveyMarks_pwq (s : State) (marked : List NodeId) :
    (s.surveyMarks marked).pwq =
      s.pwq := by simp only [State.surveyMarks]
@[simp] theorem State.surveyMarks_drt (s : State) (marked : List NodeId) :
    (s.surveyMarks marked).drt =
      s.drt := by simp only [State.surveyMarks]
@[simp] theorem State.surveyMarks_sched (s : State) (marked : List NodeId) :
    (s.surveyMarks marked).sched =
      s.sched := by simp only [State.surveyMarks]
@[simp] theorem State.surveyMarks_engine (s : State) (marked : List NodeId) :
    (s.surveyMarks marked).engine =
      s.engine := by simp only [State.surveyMarks]
@[simp] theorem State.surveyMarks_seg (s : State) (marked : List NodeId) :
    (s.surveyMarks marked).seg =
      s.seg := by simp only [State.surveyMarks]
@[simp] theorem State.surveyMarks_segRst (s : State) (marked : List NodeId) :
    (s.surveyMarks marked).segRst =
      s.segRst := by simp only [State.surveyMarks]
@[simp] theorem State.surveyMarks_segAttn (s : State) (marked : List NodeId) :
    (s.surveyMarks marked).segAttn =
      s.segAttn := by simp only [State.surveyMarks]
@[simp] theorem State.surveyMarks_nodes (s : State) (marked : List NodeId) :
    (s.surveyMarks marked).nodes =
      Vector.ofFn fun n : NodeId => if marked.contains n then (s.node n).heard else s.node n := by simp only [State.surveyMarks]
@[simp] theorem State.surveyMarks_attn (s : State) (marked : List NodeId) :
    (s.surveyMarks marked).attn =
      s.attn := by simp only [State.surveyMarks]
@[simp] theorem State.surveyMarks_notices (s : State) (marked : List NodeId) :
    (s.surveyMarks marked).notices =
      s.notices := by simp only [State.surveyMarks]
@[simp] theorem State.surveyMarks_link (s : State) (marked : List NodeId) :
    (s.surveyMarks marked).link =
      s.link := by simp only [State.surveyMarks]
@[simp] theorem State.surveyMarks_params (s : State) (marked : List NodeId) :
    (s.surveyMarks marked).params =
      s.params := by simp only [State.surveyMarks]
@[simp] theorem State.surveyMarks_counters (s : State) (marked : List NodeId) :
    (s.surveyMarks marked).counters =
      s.counters := by simp only [State.surveyMarks]
@[simp] theorem State.surveyMarks_pending (s : State) (marked : List NodeId) :
    (s.surveyMarks marked).pending =
      s.pending := by simp only [State.surveyMarks]

/-! ### fetchRetry -/

@[simp] theorem State.fetchRetry_held (s : State) (n : NodeId) (mark : Bool) :
    (s.fetchRetry n mark).held =
      s.held := rfl
@[simp] theorem State.fetchRetry_pwq (s : State) (n : NodeId) (mark : Bool) : (s.fetchRetry n mark).pwq = s.pwq := rfl
@[simp] theorem State.fetchRetry_drt (s : State) (n : NodeId) (mark : Bool) : (s.fetchRetry n mark).drt = s.drt := rfl
@[simp] theorem State.fetchRetry_sched (s : State) (n : NodeId) (mark : Bool) :
    (s.fetchRetry n mark).sched =
      s.sched := rfl
@[simp] theorem State.fetchRetry_engine (s : State) (n : NodeId) (mark : Bool) :
    (s.fetchRetry n mark).engine =
      s.engine := rfl
@[simp] theorem State.fetchRetry_seg (s : State) (n : NodeId) (mark : Bool) : (s.fetchRetry n mark).seg = s.seg := rfl
@[simp] theorem State.fetchRetry_segRst (s : State) (n : NodeId) (mark : Bool) :
    (s.fetchRetry n mark).segRst =
      s.segRst := rfl
@[simp] theorem State.fetchRetry_segAttn (s : State) (n : NodeId) (mark : Bool) :
    (s.fetchRetry n mark).segAttn =
      s.segAttn := rfl
@[simp] theorem State.fetchRetry_nodes (s : State) (n : NodeId) (mark : Bool) :
    (s.fetchRetry n mark).nodes =
      s.nodes.set n { s.node n with fetchEligible := some s.params.retryGap } := rfl
@[simp] theorem State.fetchRetry_attn (s : State) (n : NodeId) (mark : Bool) :
    (s.fetchRetry n mark).attn =
      s.attn.setMark n mark := rfl
@[simp] theorem State.fetchRetry_notices (s : State) (n : NodeId) (mark : Bool) :
    (s.fetchRetry n mark).notices =
      s.notices := rfl
@[simp] theorem State.fetchRetry_link (s : State) (n : NodeId) (mark : Bool) :
    (s.fetchRetry n mark).link =
      s.link := rfl
@[simp] theorem State.fetchRetry_params (s : State) (n : NodeId) (mark : Bool) :
    (s.fetchRetry n mark).params =
      s.params := rfl
@[simp] theorem State.fetchRetry_counters (s : State) (n : NodeId) (mark : Bool) :
    (s.fetchRetry n mark).counters =
      s.counters := rfl
@[simp] theorem State.fetchRetry_pending (s : State) (n : NodeId) (mark : Bool) :
    (s.fetchRetry n mark).pending =
      s.pending := rfl

/-! ### reportEntered -/

@[simp] theorem State.reportEntered_held (s : State) (n : NodeId) (more : Bool) (code : Byte) (data : List Byte) :
    (s.reportEntered n more code data).held =
      s.held := rfl
@[simp] theorem State.reportEntered_pwq (s : State) (n : NodeId) (more : Bool) (code : Byte) (data : List Byte) :
    (s.reportEntered n more code data).pwq =
      s.pwq := rfl
@[simp] theorem State.reportEntered_drt (s : State) (n : NodeId) (more : Bool) (code : Byte) (data : List Byte) :
    (s.reportEntered n more code data).drt =
      s.drt := rfl
@[simp] theorem State.reportEntered_sched (s : State) (n : NodeId) (more : Bool) (code : Byte) (data : List Byte) :
    (s.reportEntered n more code data).sched =
      s.sched := rfl
@[simp] theorem State.reportEntered_engine (s : State) (n : NodeId) (more : Bool) (code : Byte) (data : List Byte) :
    (s.reportEntered n more code data).engine =
      s.engine := rfl
@[simp] theorem State.reportEntered_seg (s : State) (n : NodeId) (more : Bool) (code : Byte) (data : List Byte) :
    (s.reportEntered n more code data).seg =
      s.seg := rfl
@[simp] theorem State.reportEntered_segRst (s : State) (n : NodeId) (more : Bool) (code : Byte) (data : List Byte) :
    (s.reportEntered n more code data).segRst =
      s.segRst := rfl
@[simp] theorem State.reportEntered_segAttn (s : State) (n : NodeId) (more : Bool) (code : Byte) (data : List Byte) :
    (s.reportEntered n more code data).segAttn =
      s.segAttn := rfl
@[simp] theorem State.reportEntered_nodes (s : State) (n : NodeId) (more : Bool) (code : Byte) (data : List Byte) :
    (s.reportEntered n more code data).nodes =
      s.nodes.set n { s.node n with fetchToggle := !(s.node n).fetchToggle } := rfl
@[simp] theorem State.reportEntered_attn (s : State) (n : NodeId) (more : Bool) (code : Byte) (data : List Byte) :
    (s.reportEntered n more code data).attn =
      if more then s.attn.setMark n false else s.attn.remove n := rfl
@[simp] theorem State.reportEntered_notices (s : State) (n : NodeId) (more : Bool) (code : Byte) (data : List Byte) :
    (s.reportEntered n more code data).notices =
      s.notices.enterReport n code data := rfl
@[simp] theorem State.reportEntered_link (s : State) (n : NodeId) (more : Bool) (code : Byte) (data : List Byte) :
    (s.reportEntered n more code data).link =
      s.link := rfl
@[simp] theorem State.reportEntered_params (s : State) (n : NodeId) (more : Bool) (code : Byte) (data : List Byte) :
    (s.reportEntered n more code data).params =
      s.params := rfl
@[simp] theorem State.reportEntered_counters (s : State) (n : NodeId) (more : Bool) (code : Byte) (data : List Byte) :
    (s.reportEntered n more code data).counters =
      s.counters := rfl
@[simp] theorem State.reportEntered_pending (s : State) (n : NodeId) (more : Bool) (code : Byte) (data : List Byte) :
    (s.reportEntered n more code data).pending =
      s.pending := rfl

/-! ### sendHello -/

@[simp] theorem State.sendHello_held (s : State) : s.sendHello.held = s.held := rfl
@[simp] theorem State.sendHello_pwq (s : State) : s.sendHello.pwq = s.pwq := rfl
@[simp] theorem State.sendHello_drt (s : State) : s.sendHello.drt = s.drt := rfl
@[simp] theorem State.sendHello_sched (s : State) : s.sendHello.sched = s.sched := rfl
@[simp] theorem State.sendHello_engine (s : State) : s.sendHello.engine = s.engine := rfl
@[simp] theorem State.sendHello_seg (s : State) : s.sendHello.seg = s.seg := rfl
@[simp] theorem State.sendHello_segRst (s : State) : s.sendHello.segRst = s.segRst := rfl
@[simp] theorem State.sendHello_segAttn (s : State) : s.sendHello.segAttn = s.segAttn := rfl
@[simp] theorem State.sendHello_nodes (s : State) : s.sendHello.nodes = s.nodes := rfl
@[simp] theorem State.sendHello_attn (s : State) : s.sendHello.attn = s.attn := rfl
@[simp] theorem State.sendHello_notices (s : State) : s.sendHello.notices = s.notices := rfl
@[simp] theorem State.sendHello_link (s : State) :
    s.sendHello.link =
      { s.link with tx := some { kind := .hello, bytes := frameBytes 0 0x83 (helloPayload s.link.resetCause s.link.lspd) } } := rfl
@[simp] theorem State.sendHello_params (s : State) : s.sendHello.params = s.params := rfl
@[simp] theorem State.sendHello_counters (s : State) : s.sendHello.counters = s.counters := rfl
@[simp] theorem State.sendHello_pending (s : State) : s.sendHello.pending = s.pending := rfl

/-! ### sendNak -/

@[simp] theorem State.sendNak_held (s : State) : s.sendNak.held = s.held := rfl
@[simp] theorem State.sendNak_pwq (s : State) : s.sendNak.pwq = s.pwq := rfl
@[simp] theorem State.sendNak_drt (s : State) : s.sendNak.drt = s.drt := rfl
@[simp] theorem State.sendNak_sched (s : State) : s.sendNak.sched = s.sched := rfl
@[simp] theorem State.sendNak_engine (s : State) : s.sendNak.engine = s.engine := rfl
@[simp] theorem State.sendNak_seg (s : State) : s.sendNak.seg = s.seg := rfl
@[simp] theorem State.sendNak_segRst (s : State) : s.sendNak.segRst = s.segRst := rfl
@[simp] theorem State.sendNak_segAttn (s : State) : s.sendNak.segAttn = s.segAttn := rfl
@[simp] theorem State.sendNak_nodes (s : State) : s.sendNak.nodes = s.nodes := rfl
@[simp] theorem State.sendNak_attn (s : State) : s.sendNak.attn = s.attn := rfl
@[simp] theorem State.sendNak_notices (s : State) : s.sendNak.notices = s.notices := rfl
@[simp] theorem State.sendNak_link (s : State) :
    s.sendNak.link =
      { s.link with nakPending := false, tx := some { kind := .linkNak, bytes := frameBytes 0 0x82 (nakPayload s.link.newestPlaced) } } := rfl
@[simp] theorem State.sendNak_params (s : State) : s.sendNak.params = s.params := rfl
@[simp] theorem State.sendNak_counters (s : State) : s.sendNak.counters = s.counters := rfl
@[simp] theorem State.sendNak_pending (s : State) : s.sendNak.pending = s.pending := rfl

/-! ### sendAnswer -/

@[simp] theorem State.sendAnswer_held (s : State) (a : StoredAnswer) (places : List Place) :
    (s.sendAnswer a places).held =
      s.held := rfl
@[simp] theorem State.sendAnswer_pwq (s : State) (a : StoredAnswer) (places : List Place) :
    (s.sendAnswer a places).pwq =
      s.pwq := rfl
@[simp] theorem State.sendAnswer_drt (s : State) (a : StoredAnswer) (places : List Place) :
    (s.sendAnswer a places).drt =
      s.drt := rfl
@[simp] theorem State.sendAnswer_sched (s : State) (a : StoredAnswer) (places : List Place) :
    (s.sendAnswer a places).sched =
      s.sched := rfl
@[simp] theorem State.sendAnswer_engine (s : State) (a : StoredAnswer) (places : List Place) :
    (s.sendAnswer a places).engine =
      s.engine := rfl
@[simp] theorem State.sendAnswer_seg (s : State) (a : StoredAnswer) (places : List Place) :
    (s.sendAnswer a places).seg =
      s.seg := rfl
@[simp] theorem State.sendAnswer_segRst (s : State) (a : StoredAnswer) (places : List Place) :
    (s.sendAnswer a places).segRst =
      s.segRst := rfl
@[simp] theorem State.sendAnswer_segAttn (s : State) (a : StoredAnswer) (places : List Place) :
    (s.sendAnswer a places).segAttn =
      s.segAttn := rfl
@[simp] theorem State.sendAnswer_nodes (s : State) (a : StoredAnswer) (places : List Place) :
    (s.sendAnswer a places).nodes =
      s.nodes := rfl
@[simp] theorem State.sendAnswer_attn (s : State) (a : StoredAnswer) (places : List Place) :
    (s.sendAnswer a places).attn =
      s.attn := rfl
@[simp] theorem State.sendAnswer_notices (s : State) (a : StoredAnswer) (places : List Place) :
    (s.sendAnswer a places).notices =
      s.notices := rfl
@[simp] theorem State.sendAnswer_link (s : State) (a : StoredAnswer) (places : List Place) :
    (s.sendAnswer a places).link =
      { s.link with places := places, tx := some { kind := .answer, bytes := a.bytes } } := rfl
@[simp] theorem State.sendAnswer_params (s : State) (a : StoredAnswer) (places : List Place) :
    (s.sendAnswer a places).params =
      s.params := rfl
@[simp] theorem State.sendAnswer_counters (s : State) (a : StoredAnswer) (places : List Place) :
    (s.sendAnswer a places).counters =
      s.counters := rfl
@[simp] theorem State.sendAnswer_pending (s : State) (a : StoredAnswer) (places : List Place) :
    (s.sendAnswer a places).pending =
      s.pending := rfl

/-! ### sendNotice -/

@[simp] theorem State.sendNotice_held (s : State) (e : Notice) : (s.sendNotice e).held = s.held := rfl
@[simp] theorem State.sendNotice_pwq (s : State) (e : Notice) : (s.sendNotice e).pwq = s.pwq := rfl
@[simp] theorem State.sendNotice_drt (s : State) (e : Notice) : (s.sendNotice e).drt = s.drt := rfl
@[simp] theorem State.sendNotice_sched (s : State) (e : Notice) : (s.sendNotice e).sched = s.sched := rfl
@[simp] theorem State.sendNotice_engine (s : State) (e : Notice) : (s.sendNotice e).engine = s.engine := rfl
@[simp] theorem State.sendNotice_seg (s : State) (e : Notice) : (s.sendNotice e).seg = s.seg := rfl
@[simp] theorem State.sendNotice_segRst (s : State) (e : Notice) : (s.sendNotice e).segRst = s.segRst := rfl
@[simp] theorem State.sendNotice_segAttn (s : State) (e : Notice) : (s.sendNotice e).segAttn = s.segAttn := rfl
@[simp] theorem State.sendNotice_nodes (s : State) (e : Notice) : (s.sendNotice e).nodes = s.nodes := rfl
@[simp] theorem State.sendNotice_attn (s : State) (e : Notice) : (s.sendNotice e).attn = s.attn := rfl
@[simp] theorem State.sendNotice_notices (s : State) (e : Notice) :
    (s.sendNotice e).notices =
      s.notices.takeNotice s.params.resendTime := rfl
@[simp] theorem State.sendNotice_link (s : State) (e : Notice) :
    (s.sendNotice e).link =
      { s.link with tx := some { kind := .notice e.number, bytes := frameBytes 0 0x80 e.taken.framePayload } } := rfl
@[simp] theorem State.sendNotice_params (s : State) (e : Notice) : (s.sendNotice e).params = s.params := rfl
@[simp] theorem State.sendNotice_counters (s : State) (e : Notice) : (s.sendNotice e).counters = s.counters := rfl
@[simp] theorem State.sendNotice_pending (s : State) (e : Notice) : (s.sendNotice e).pending = s.pending := rfl

/-! ### sendHint -/

@[simp] theorem State.sendHint_held (s : State) (i : SlotId) (sl : Slot) : (s.sendHint i sl).held = s.held := rfl
@[simp] theorem State.sendHint_pwq (s : State) (i : SlotId) (sl : Slot) : (s.sendHint i sl).pwq = s.pwq := rfl
@[simp] theorem State.sendHint_drt (s : State) (i : SlotId) (sl : Slot) : (s.sendHint i sl).drt = s.drt := rfl
@[simp] theorem State.sendHint_sched (s : State) (i : SlotId) (sl : Slot) : (s.sendHint i sl).sched = s.sched := rfl
@[simp] theorem State.sendHint_engine (s : State) (i : SlotId) (sl : Slot) :
    (s.sendHint i sl).engine =
      s.engine := rfl
@[simp] theorem State.sendHint_seg (s : State) (i : SlotId) (sl : Slot) : (s.sendHint i sl).seg = s.seg := rfl
@[simp] theorem State.sendHint_segRst (s : State) (i : SlotId) (sl : Slot) :
    (s.sendHint i sl).segRst =
      s.segRst := rfl
@[simp] theorem State.sendHint_segAttn (s : State) (i : SlotId) (sl : Slot) :
    (s.sendHint i sl).segAttn =
      s.segAttn := rfl
@[simp] theorem State.sendHint_nodes (s : State) (i : SlotId) (sl : Slot) : (s.sendHint i sl).nodes = s.nodes := rfl
@[simp] theorem State.sendHint_attn (s : State) (i : SlotId) (sl : Slot) : (s.sendHint i sl).attn = s.attn := rfl
@[simp] theorem State.sendHint_notices (s : State) (i : SlotId) (sl : Slot) :
    (s.sendHint i sl).notices =
      s.notices.removeHint i := rfl
@[simp] theorem State.sendHint_link (s : State) (i : SlotId) (sl : Slot) :
    (s.sendHint i sl).link =
      { s.link with tx := some { kind := .hint i, bytes := frameBytes 0 0x81 (hintPayload i sl) } } := rfl
@[simp] theorem State.sendHint_params (s : State) (i : SlotId) (sl : Slot) :
    (s.sendHint i sl).params =
      s.params := rfl
@[simp] theorem State.sendHint_counters (s : State) (i : SlotId) (sl : Slot) :
    (s.sendHint i sl).counters =
      s.counters := rfl
@[simp] theorem State.sendHint_pending (s : State) (i : SlotId) (sl : Slot) :
    (s.sendHint i sl).pending =
      s.pending := rfl

/-! ### discardSlot -/

@[simp] theorem State.discardSlot_held (s : State) (i : SlotId) (sl : Slot) :
    (s.discardSlot i sl).held =
      s.held := rfl
@[simp] theorem State.discardSlot_pwq (s : State) (i : SlotId) (sl : Slot) : (s.discardSlot i sl).pwq = s.pwq := rfl
@[simp] theorem State.discardSlot_drt (s : State) (i : SlotId) (sl : Slot) :
    (s.discardSlot i sl).drt =
      { slots := s.drt.slots.set i none, order := s.drt.order.filter (· != i) } := rfl
@[simp] theorem State.discardSlot_sched (s : State) (i : SlotId) (sl : Slot) :
    (s.discardSlot i sl).sched =
      s.sched := rfl
@[simp] theorem State.discardSlot_engine (s : State) (i : SlotId) (sl : Slot) :
    (s.discardSlot i sl).engine =
      s.engine := rfl
@[simp] theorem State.discardSlot_seg (s : State) (i : SlotId) (sl : Slot) : (s.discardSlot i sl).seg = s.seg := rfl
@[simp] theorem State.discardSlot_segRst (s : State) (i : SlotId) (sl : Slot) :
    (s.discardSlot i sl).segRst =
      s.segRst := rfl
@[simp] theorem State.discardSlot_segAttn (s : State) (i : SlotId) (sl : Slot) :
    (s.discardSlot i sl).segAttn =
      s.segAttn := rfl
@[simp] theorem State.discardSlot_nodes (s : State) (i : SlotId) (sl : Slot) :
    (s.discardSlot i sl).nodes =
      s.nodes := rfl
@[simp] theorem State.discardSlot_attn (s : State) (i : SlotId) (sl : Slot) :
    (s.discardSlot i sl).attn =
      s.attn := rfl
@[simp] theorem State.discardSlot_notices (s : State) (i : SlotId) (sl : Slot) :
    (s.discardSlot i sl).notices =
      (s.notices.removeHint i).enterFault (sl.discardDetail i) := rfl
@[simp] theorem State.discardSlot_link (s : State) (i : SlotId) (sl : Slot) :
    (s.discardSlot i sl).link =
      s.link := rfl
@[simp] theorem State.discardSlot_params (s : State) (i : SlotId) (sl : Slot) :
    (s.discardSlot i sl).params =
      s.params := rfl
@[simp] theorem State.discardSlot_counters (s : State) (i : SlotId) (sl : Slot) :
    (s.discardSlot i sl).counters =
      { s.counters with completionsDiscarded := s.counters.completionsDiscarded + 1 } := rfl
@[simp] theorem State.discardSlot_pending (s : State) (i : SlotId) (sl : Slot) :
    (s.discardSlot i sl).pending =
      s.pending := rfl

/-! ### The Notice Block's operations -/

@[simp] theorem NoticeBlock.enterReport_queue (b : NoticeBlock) (n : NodeId) (code : Byte) (data : List Byte) :
    (b.enterReport n code data).queue = b.queue ++ [{ number := b.next, payload := .report n code data, state := .unsent, sendCount := 0 }] := rfl
@[simp] theorem NoticeBlock.enterReport_next (b : NoticeBlock) (n : NodeId) (code : Byte) (data : List Byte) :
    (b.enterReport n code data).next = b.next + 1 := rfl
@[simp] theorem NoticeBlock.enterReport_lostFaults (b : NoticeBlock) (n : NodeId) (code : Byte) (data : List Byte) :
    (b.enterReport n code data).lostFaults = b.lostFaults := rfl
@[simp] theorem NoticeBlock.enterReport_resend (b : NoticeBlock) (n : NodeId) (code : Byte) (data : List Byte) :
    (b.enterReport n code data).resend = b.resend := rfl
@[simp] theorem NoticeBlock.enterReport_ready (b : NoticeBlock) (n : NodeId) (code : Byte) (data : List Byte) :
    (b.enterReport n code data).ready = b.ready := rfl

@[simp] theorem NoticeBlock.addHint_queue (b : NoticeBlock) (i : SlotId) :
    (b.addHint i).queue = b.queue := rfl
@[simp] theorem NoticeBlock.addHint_next (b : NoticeBlock) (i : SlotId) :
    (b.addHint i).next = b.next := rfl
@[simp] theorem NoticeBlock.addHint_lostFaults (b : NoticeBlock) (i : SlotId) :
    (b.addHint i).lostFaults = b.lostFaults := rfl
@[simp] theorem NoticeBlock.addHint_resend (b : NoticeBlock) (i : SlotId) :
    (b.addHint i).resend = b.resend := rfl
@[simp] theorem NoticeBlock.addHint_ready (b : NoticeBlock) (i : SlotId) :
    (b.addHint i).ready = allSlots.filter fun j => j == i || b.ready.contains j := rfl

@[simp] theorem NoticeBlock.removeHint_queue (b : NoticeBlock) (i : SlotId) :
    (b.removeHint i).queue = b.queue := rfl
@[simp] theorem NoticeBlock.removeHint_next (b : NoticeBlock) (i : SlotId) :
    (b.removeHint i).next = b.next := rfl
@[simp] theorem NoticeBlock.removeHint_lostFaults (b : NoticeBlock) (i : SlotId) :
    (b.removeHint i).lostFaults = b.lostFaults := rfl
@[simp] theorem NoticeBlock.removeHint_resend (b : NoticeBlock) (i : SlotId) :
    (b.removeHint i).resend = b.resend := rfl
@[simp] theorem NoticeBlock.removeHint_ready (b : NoticeBlock) (i : SlotId) :
    (b.removeHint i).ready = b.ready.filter (· != i) := rfl

@[simp] theorem NoticeBlock.rewind_queue (b : NoticeBlock) :
    b.rewind.queue = b.queue.map fun e => { e with state := .unsent } := rfl
@[simp] theorem NoticeBlock.rewind_next (b : NoticeBlock) :
    b.rewind.next = b.next := rfl
@[simp] theorem NoticeBlock.rewind_lostFaults (b : NoticeBlock) :
    b.rewind.lostFaults = b.lostFaults := rfl
@[simp] theorem NoticeBlock.rewind_resend (b : NoticeBlock) :
    b.rewind.resend = none := rfl
@[simp] theorem NoticeBlock.rewind_ready (b : NoticeBlock) :
    b.rewind.ready = b.ready := rfl

@[simp] theorem NoticeBlock.takeNotice_queue (b : NoticeBlock) (t : Nat) :
    (b.takeNotice t).queue = takeFirstUnsent b.queue := rfl
@[simp] theorem NoticeBlock.takeNotice_next (b : NoticeBlock) (t : Nat) :
    (b.takeNotice t).next = b.next := rfl
@[simp] theorem NoticeBlock.takeNotice_lostFaults (b : NoticeBlock) (t : Nat) :
    (b.takeNotice t).lostFaults = b.lostFaults := rfl
@[simp] theorem NoticeBlock.takeNotice_ready (b : NoticeBlock) (t : Nat) :
    (b.takeNotice t).ready = b.ready := rfl

@[simp] theorem NoticeBlock.removeFirst_queue (b : NoticeBlock) (r t : Nat) :
    (b.removeFirst r t).queue = b.queue.drop r := rfl
@[simp] theorem NoticeBlock.removeFirst_next (b : NoticeBlock) (r t : Nat) :
    (b.removeFirst r t).next = b.next := rfl
@[simp] theorem NoticeBlock.removeFirst_lostFaults (b : NoticeBlock) (r t : Nat) :
    (b.removeFirst r t).lostFaults = b.lostFaults := rfl
@[simp] theorem NoticeBlock.removeFirst_resend (b : NoticeBlock) (r t : Nat) :
    (b.removeFirst r t).resend = if (b.queue.drop r).any (·.state == .sent) then some t else none := rfl
@[simp] theorem NoticeBlock.removeFirst_ready (b : NoticeBlock) (r t : Nat) :
    (b.removeFirst r t).ready = b.ready := rfl

end Sys2Proof.Machine
end

