-- ==== Sys2Proof/Laws/Frames.lean ====
section
/-!
SUPPORT. What the shared operations leave alone: one lemma per operation and field. A proof rewrites with these instead
of unfolding the operation.
-/

namespace Sys2Proof.Machine

/-- A fold keeps what every step of it keeps. -/
theorem foldl_keeps {α β γ : Type} (p : β → γ) (f : β → α → β) (h : ∀ b a, p (f b a) = p b) (l : List α) :
    ∀ b, p (l.foldl f b) = p b := by
  induction l with
  | nil => intro b; rfl
  | cons a rest ih => intro b; rw [List.foldl_cons, ih, h]

/-- A fold keeps a property that every step of it keeps. -/
theorem foldl_invariant {α β : Type} (P : β → Prop) (f : β → α → β) (h : ∀ b a, P b → P (f b a)) (l : List α) :
    ∀ b, P b → P (l.foldl f b) := by
  induction l with
  | nil => intro b hb; exact hb
  | cons a rest ih => intro b hb; exact ih _ (h b a hb)

@[simp] theorem NoticeBlock.enterFault_resend (b : NoticeBlock) (d : FaultDetail) :
    (b.enterFault d).resend = b.resend := by
  unfold NoticeBlock.enterFault; split <;> rfl

@[simp] theorem NoticeBlock.enterFault_ready (b : NoticeBlock) (d : FaultDetail) :
    (b.enterFault d).ready = b.ready := by
  unfold NoticeBlock.enterFault; split <;> rfl

@[simp] theorem NoticeBlock.removeHint_enterFault (b : NoticeBlock) (i : SlotId) (d : FaultDetail) :
    (b.removeHint i).enterFault d = (b.enterFault d).removeHint i := by
  unfold NoticeBlock.enterFault NoticeBlock.removeHint NoticeBlock.hasRoom; simp only; split <;> rfl
@[simp] theorem NoticeBlock.hinted_queue (c : Bool) (b : NoticeBlock) (i : SlotId) :
    (if c = true then b.addHint i else b).queue = b.queue := by split <;> rfl

@[simp] theorem NoticeBlock.hinted_next (c : Bool) (b : NoticeBlock) (i : SlotId) :
    (if c = true then b.addHint i else b).next = b.next := by split <;> rfl

@[simp] theorem NoticeBlock.hinted_lostFaults (c : Bool) (b : NoticeBlock) (i : SlotId) :
    (if c = true then b.addHint i else b).lostFaults = b.lostFaults := by split <;> rfl

@[simp] theorem NoticeBlock.hinted_resend (c : Bool) (b : NoticeBlock) (i : SlotId) :
    (if c = true then b.addHint i else b).resend = b.resend := by split <;> rfl

/-! ### completeWith -/

@[simp] theorem State.completeWith_notices_queue (s : State) (i : SlotId) (sl : Slot) (r : ResultStatus) :
    (s.completeWith i sl r).notices.queue = s.notices.queue := by
  simp only [State.completeWith_notices]; split <;> rfl

@[simp] theorem State.completeWith_notices_next (s : State) (i : SlotId) (sl : Slot) (r : ResultStatus) :
    (s.completeWith i sl r).notices.next = s.notices.next := by
  simp only [State.completeWith_notices]; split <;> rfl

@[simp] theorem State.completeWith_notices_lostFaults (s : State) (i : SlotId) (sl : Slot) (r : ResultStatus) :
    (s.completeWith i sl r).notices.lostFaults = s.notices.lostFaults := by
  simp only [State.completeWith_notices]; split <;> rfl

@[simp] theorem State.completeWith_notices_resend (s : State) (i : SlotId) (sl : Slot) (r : ResultStatus) :
    (s.completeWith i sl r).notices.resend = s.notices.resend := by
  simp only [State.completeWith_notices]; split <;> rfl

/-! ### completeSlot -/

@[simp] theorem State.completeSlot_held (s : State) (i : SlotId) (r : ResultStatus) :
    (s.completeSlot i r).held = s.held := by
  unfold State.completeSlot; split <;> simp

@[simp] theorem State.completeSlot_pwq (s : State) (i : SlotId) (r : ResultStatus) :
    (s.completeSlot i r).pwq = s.pwq := by
  unfold State.completeSlot; split <;> simp

@[simp] theorem State.completeSlot_sched (s : State) (i : SlotId) (r : ResultStatus) :
    (s.completeSlot i r).sched = s.sched := by
  unfold State.completeSlot; split <;> simp

@[simp] theorem State.completeSlot_engine (s : State) (i : SlotId) (r : ResultStatus) :
    (s.completeSlot i r).engine = s.engine := by
  unfold State.completeSlot; split <;> simp

@[simp] theorem State.completeSlot_seg (s : State) (i : SlotId) (r : ResultStatus) :
    (s.completeSlot i r).seg = s.seg := by
  unfold State.completeSlot; split <;> simp

@[simp] theorem State.completeSlot_segRst (s : State) (i : SlotId) (r : ResultStatus) :
    (s.completeSlot i r).segRst = s.segRst := by
  unfold State.completeSlot; split <;> simp

@[simp] theorem State.completeSlot_segAttn (s : State) (i : SlotId) (r : ResultStatus) :
    (s.completeSlot i r).segAttn = s.segAttn := by
  unfold State.completeSlot; split <;> simp

@[simp] theorem State.completeSlot_nodes (s : State) (i : SlotId) (r : ResultStatus) :
    (s.completeSlot i r).nodes = s.nodes := by
  unfold State.completeSlot; split <;> simp

@[simp] theorem State.completeSlot_attn (s : State) (i : SlotId) (r : ResultStatus) :
    (s.completeSlot i r).attn = s.attn := by
  unfold State.completeSlot; split <;> simp

@[simp] theorem State.completeSlot_link (s : State) (i : SlotId) (r : ResultStatus) :
    (s.completeSlot i r).link = s.link := by
  unfold State.completeSlot; split <;> simp

@[simp] theorem State.completeSlot_params (s : State) (i : SlotId) (r : ResultStatus) :
    (s.completeSlot i r).params = s.params := by
  unfold State.completeSlot; split <;> simp

@[simp] theorem State.completeSlot_pending (s : State) (i : SlotId) (r : ResultStatus) :
    (s.completeSlot i r).pending = s.pending := by
  unfold State.completeSlot; split <;> simp

@[simp] theorem State.completeSlot_notices_queue (s : State) (i : SlotId) (r : ResultStatus) :
    (s.completeSlot i r).notices.queue = s.notices.queue := by
  unfold State.completeSlot; split <;> simp

@[simp] theorem State.completeSlot_notices_next (s : State) (i : SlotId) (r : ResultStatus) :
    (s.completeSlot i r).notices.next = s.notices.next := by
  unfold State.completeSlot; split <;> simp

@[simp] theorem State.completeSlot_notices_lostFaults (s : State) (i : SlotId) (r : ResultStatus) :
    (s.completeSlot i r).notices.lostFaults = s.notices.lostFaults := by
  unfold State.completeSlot; split <;> simp

@[simp] theorem State.completeSlot_notices_resend (s : State) (i : SlotId) (r : ResultStatus) :
    (s.completeSlot i r).notices.resend = s.notices.resend := by
  unfold State.completeSlot; split <;> simp

/-! ### completeBarrier -/

@[simp] theorem State.completeBarrier_held (s : State) (i : SlotId) : (s.completeBarrier i).held = s.held := by
  unfold State.completeBarrier; split <;> simp

@[simp] theorem State.completeBarrier_sched (s : State) (i : SlotId) : (s.completeBarrier i).sched = s.sched := by
  unfold State.completeBarrier; split <;> simp

@[simp] theorem State.completeBarrier_engine (s : State) (i : SlotId) : (s.completeBarrier i).engine = s.engine := by
  unfold State.completeBarrier; split <;> simp

@[simp] theorem State.completeBarrier_seg (s : State) (i : SlotId) : (s.completeBarrier i).seg = s.seg := by
  unfold State.completeBarrier; split <;> simp

@[simp] theorem State.completeBarrier_segRst (s : State) (i : SlotId) : (s.completeBarrier i).segRst = s.segRst := by
  unfold State.completeBarrier; split <;> simp

@[simp] theorem State.completeBarrier_segAttn (s : State) (i : SlotId) : (s.completeBarrier i).segAttn = s.segAttn := by
  unfold State.completeBarrier; split <;> simp

@[simp] theorem State.completeBarrier_nodes (s : State) (i : SlotId) : (s.completeBarrier i).nodes = s.nodes := by
  unfold State.completeBarrier; split <;> simp

@[simp] theorem State.completeBarrier_attn (s : State) (i : SlotId) : (s.completeBarrier i).attn = s.attn := by
  unfold State.completeBarrier; split <;> simp

@[simp] theorem State.completeBarrier_link (s : State) (i : SlotId) : (s.completeBarrier i).link = s.link := by
  unfold State.completeBarrier; split <;> simp

@[simp] theorem State.completeBarrier_params (s : State) (i : SlotId) : (s.completeBarrier i).params = s.params := by
  unfold State.completeBarrier; split <;> simp

@[simp] theorem State.completeBarrier_pending (s : State) (i : SlotId) : (s.completeBarrier i).pending = s.pending := by
  unfold State.completeBarrier; split <;> simp

@[simp] theorem State.completeBarrier_pwq_queue (s : State) (i : SlotId) :
    (s.completeBarrier i).pwq.queue = s.pwq.queue := by
  unfold State.completeBarrier; split <;> simp

@[simp] theorem State.completeBarrier_pwq_nextNumber (s : State) (i : SlotId) :
    (s.completeBarrier i).pwq.nextNumber = s.pwq.nextNumber := by
  unfold State.completeBarrier; split <;> simp

@[simp] theorem State.completeBarrier_notices_queue (s : State) (i : SlotId) :
    (s.completeBarrier i).notices.queue = s.notices.queue := by
  unfold State.completeBarrier; split <;> simp

@[simp] theorem State.completeBarrier_notices_next (s : State) (i : SlotId) :
    (s.completeBarrier i).notices.next = s.notices.next := by
  unfold State.completeBarrier; split <;> simp

@[simp] theorem State.completeBarrier_notices_lostFaults (s : State) (i : SlotId) :
    (s.completeBarrier i).notices.lostFaults = s.notices.lostFaults := by
  unfold State.completeBarrier; split <;> simp

@[simp] theorem State.completeBarrier_notices_resend (s : State) (i : SlotId) :
    (s.completeBarrier i).notices.resend = s.notices.resend := by
  unfold State.completeBarrier; split <;> simp

@[simp] theorem State.completeBarrier_pwq_entries (s : State) (i : SlotId) :
    (s.completeBarrier i).pwq.entries = s.pwq.entries := by
  simp [Pwq.entries]

/-! ### completeBarriers -/

@[simp] theorem State.completeBarriers_held (s : State) : s.completeBarriers.held = s.held := by
  unfold State.completeBarriers; exact foldl_keeps (fun t : State => t.held) _ (fun t i => by split <;> simp) _ s

@[simp] theorem State.completeBarriers_sched (s : State) : s.completeBarriers.sched = s.sched := by
  unfold State.completeBarriers; exact foldl_keeps (fun t : State => t.sched) _ (fun t i => by split <;> simp) _ s

@[simp] theorem State.completeBarriers_engine (s : State) : s.completeBarriers.engine = s.engine := by
  unfold State.completeBarriers; exact foldl_keeps (fun t : State => t.engine) _ (fun t i => by split <;> simp) _ s

@[simp] theorem State.completeBarriers_seg (s : State) : s.completeBarriers.seg = s.seg := by
  unfold State.completeBarriers; exact foldl_keeps (fun t : State => t.seg) _ (fun t i => by split <;> simp) _ s

@[simp] theorem State.completeBarriers_segRst (s : State) : s.completeBarriers.segRst = s.segRst := by
  unfold State.completeBarriers; exact foldl_keeps (fun t : State => t.segRst) _ (fun t i => by split <;> simp) _ s

@[simp] theorem State.completeBarriers_segAttn (s : State) : s.completeBarriers.segAttn = s.segAttn := by
  unfold State.completeBarriers; exact foldl_keeps (fun t : State => t.segAttn) _ (fun t i => by split <;> simp) _ s

@[simp] theorem State.completeBarriers_nodes (s : State) : s.completeBarriers.nodes = s.nodes := by
  unfold State.completeBarriers; exact foldl_keeps (fun t : State => t.nodes) _ (fun t i => by split <;> simp) _ s

@[simp] theorem State.completeBarriers_attn (s : State) : s.completeBarriers.attn = s.attn := by
  unfold State.completeBarriers; exact foldl_keeps (fun t : State => t.attn) _ (fun t i => by split <;> simp) _ s

@[simp] theorem State.completeBarriers_link (s : State) : s.completeBarriers.link = s.link := by
  unfold State.completeBarriers; exact foldl_keeps (fun t : State => t.link) _ (fun t i => by split <;> simp) _ s

@[simp] theorem State.completeBarriers_params (s : State) : s.completeBarriers.params = s.params := by
  unfold State.completeBarriers; exact foldl_keeps (fun t : State => t.params) _ (fun t i => by split <;> simp) _ s

@[simp] theorem State.completeBarriers_pending (s : State) : s.completeBarriers.pending = s.pending := by
  unfold State.completeBarriers; exact foldl_keeps (fun t : State => t.pending) _ (fun t i => by split <;> simp) _ s

@[simp] theorem State.completeBarriers_pwq_queue (s : State) : s.completeBarriers.pwq.queue = s.pwq.queue := by
  unfold State.completeBarriers; exact foldl_keeps (fun t : State => t.pwq.queue) _ (fun t i => by split <;> simp) _ s

@[simp] theorem State.completeBarriers_pwq_nextNumber (s : State) : s.completeBarriers.pwq.nextNumber =
    s.pwq.nextNumber := by
  unfold State.completeBarriers; exact foldl_keeps (fun t : State => t.pwq.nextNumber) _
      (fun t i => by split <;> simp) _ s

@[simp] theorem State.completeBarriers_notices_queue (s : State) : s.completeBarriers.notices.queue = s.notices.queue
    := by
  unfold State.completeBarriers; exact foldl_keeps (fun t : State => t.notices.queue) _ (fun t i => by split <;> simp)
      _ s

@[simp] theorem State.completeBarriers_notices_next (s : State) : s.completeBarriers.notices.next = s.notices.next := by
  unfold State.completeBarriers; exact foldl_keeps (fun t : State => t.notices.next) _ (fun t i => by split <;> simp)
      _ s

@[simp] theorem State.completeBarriers_notices_lostFaults (s : State) : s.completeBarriers.notices.lostFaults =
    s.notices.lostFaults := by
  unfold State.completeBarriers; exact foldl_keeps (fun t : State => t.notices.lostFaults) _
      (fun t i => by split <;> simp) _ s

@[simp] theorem State.completeBarriers_notices_resend (s : State) : s.completeBarriers.notices.resend =
    s.notices.resend := by
  unfold State.completeBarriers; exact foldl_keeps (fun t : State => t.notices.resend) _
      (fun t i => by split <;> simp) _ s

@[simp] theorem State.completeBarriers_pwq_entries (s : State) : s.completeBarriers.pwq.entries = s.pwq.entries := by
  simp [Pwq.entries]

/-! ### popHead -/

@[simp] theorem State.popHead_held (s : State) (q : HeadedQueue) : (s.popHead q).held = s.held := by
  simp [State.popHead]

@[simp] theorem State.popHead_sched (s : State) (q : HeadedQueue) : (s.popHead q).sched = s.sched := by
  simp [State.popHead]

@[simp] theorem State.popHead_engine (s : State) (q : HeadedQueue) : (s.popHead q).engine = s.engine := by
  simp [State.popHead]

@[simp] theorem State.popHead_seg (s : State) (q : HeadedQueue) : (s.popHead q).seg = s.seg := by
  simp [State.popHead]

@[simp] theorem State.popHead_segRst (s : State) (q : HeadedQueue) : (s.popHead q).segRst = s.segRst := by
  simp [State.popHead]

@[simp] theorem State.popHead_segAttn (s : State) (q : HeadedQueue) : (s.popHead q).segAttn = s.segAttn := by
  simp [State.popHead]

@[simp] theorem State.popHead_nodes (s : State) (q : HeadedQueue) : (s.popHead q).nodes = s.nodes := by
  simp [State.popHead]

@[simp] theorem State.popHead_attn (s : State) (q : HeadedQueue) : (s.popHead q).attn = s.attn := by
  simp [State.popHead]

@[simp] theorem State.popHead_link (s : State) (q : HeadedQueue) : (s.popHead q).link = s.link := by
  simp [State.popHead]

@[simp] theorem State.popHead_params (s : State) (q : HeadedQueue) : (s.popHead q).params = s.params := by
  simp [State.popHead]

@[simp] theorem State.popHead_pending (s : State) (q : HeadedQueue) : (s.popHead q).pending = s.pending := by
  simp [State.popHead]

@[simp] theorem State.popHead_pwq_nextNumber (s : State) (q : HeadedQueue) :
    (s.popHead q).pwq.nextNumber = s.pwq.nextNumber := by
  simp [State.popHead]

@[simp] theorem State.popHead_notices_queue (s : State) (q : HeadedQueue) :
    (s.popHead q).notices.queue = s.notices.queue := by
  simp [State.popHead]

@[simp] theorem State.popHead_notices_next (s : State) (q : HeadedQueue) :
    (s.popHead q).notices.next = s.notices.next := by
  simp [State.popHead]

@[simp] theorem State.popHead_notices_lostFaults (s : State) (q : HeadedQueue) :
    (s.popHead q).notices.lostFaults = s.notices.lostFaults := by
  simp [State.popHead]

@[simp] theorem State.popHead_notices_resend (s : State) (q : HeadedQueue) :
    (s.popHead q).notices.resend = s.notices.resend := by
  simp [State.popHead]

@[simp] theorem State.popHead_pwq_queue (s : State) (q : HeadedQueue) :
    (s.popHead q).pwq.queue = headedBy q.behind := by
  simp [State.popHead]

/-! ### discardHead -/

@[simp] theorem State.discardHead_held (s : State) (q : HeadedQueue) (r : LossReason) :
    (s.discardHead q r).held = s.held := by
  simp [State.discardHead]

@[simp] theorem State.discardHead_sched (s : State) (q : HeadedQueue) (r : LossReason) :
    (s.discardHead q r).sched = s.sched := by
  simp [State.discardHead]

@[simp] theorem State.discardHead_engine (s : State) (q : HeadedQueue) (r : LossReason) :
    (s.discardHead q r).engine = s.engine := by
  simp [State.discardHead]

@[simp] theorem State.discardHead_seg (s : State) (q : HeadedQueue) (r : LossReason) :
    (s.discardHead q r).seg = s.seg := by
  simp [State.discardHead]

@[simp] theorem State.discardHead_segRst (s : State) (q : HeadedQueue) (r : LossReason) :
    (s.discardHead q r).segRst = s.segRst := by
  simp [State.discardHead]

@[simp] theorem State.discardHead_segAttn (s : State) (q : HeadedQueue) (r : LossReason) :
    (s.discardHead q r).segAttn = s.segAttn := by
  simp [State.discardHead]

@[simp] theorem State.discardHead_nodes (s : State) (q : HeadedQueue) (r : LossReason) :
    (s.discardHead q r).nodes = s.nodes := by
  simp [State.discardHead]

@[simp] theorem State.discardHead_attn (s : State) (q : HeadedQueue) (r : LossReason) :
    (s.discardHead q r).attn = s.attn := by
  simp [State.discardHead]

@[simp] theorem State.discardHead_link (s : State) (q : HeadedQueue) (r : LossReason) :
    (s.discardHead q r).link = s.link := by
  simp [State.discardHead]

@[simp] theorem State.discardHead_params (s : State) (q : HeadedQueue) (r : LossReason) :
    (s.discardHead q r).params = s.params := by
  simp [State.discardHead]

@[simp] theorem State.discardHead_pending (s : State) (q : HeadedQueue) (r : LossReason) :
    (s.discardHead q r).pending = s.pending := by
  simp [State.discardHead]

@[simp] theorem State.discardHead_pwq_nextNumber (s : State) (q : HeadedQueue) (r : LossReason) :
    (s.discardHead q r).pwq.nextNumber = s.pwq.nextNumber := by
  simp [State.discardHead]

@[simp] theorem State.discardHead_notices_resend (s : State) (q : HeadedQueue) (r : LossReason) :
    (s.discardHead q r).notices.resend = s.notices.resend := by
  simp [State.discardHead]

@[simp] theorem State.discardHead_pwq_queue (s : State) (q : HeadedQueue) (r : LossReason) :
    (s.discardHead q r).pwq.queue = headedBy q.behind := by
  simp [State.discardHead]

/-! ### dropAbsentHeads and checkHead -/

@[simp] theorem State.dropAbsentHeads_held (fuel : Nat) :
    ∀ s : State, (State.dropAbsentHeads fuel s).held = s.held := by
  induction fuel with
  | zero => intro s; rfl
  | succ n ih =>
    intro s
    unfold State.dropAbsentHeads
    split
    · rfl
    · split
      · rw [ih]; simp
      · rfl

@[simp] theorem State.checkHead_held (s : State) : s.checkHead.held = s.held := by
  simp [State.checkHead]

@[simp] theorem State.dropAbsentHeads_sched (fuel : Nat) :
    ∀ s : State, (State.dropAbsentHeads fuel s).sched = s.sched := by
  induction fuel with
  | zero => intro s; rfl
  | succ n ih =>
    intro s
    unfold State.dropAbsentHeads
    split
    · rfl
    · split
      · rw [ih]; simp
      · rfl

@[simp] theorem State.checkHead_sched (s : State) : s.checkHead.sched = s.sched := by
  simp [State.checkHead]

@[simp] theorem State.dropAbsentHeads_engine (fuel : Nat) :
    ∀ s : State, (State.dropAbsentHeads fuel s).engine = s.engine := by
  induction fuel with
  | zero => intro s; rfl
  | succ n ih =>
    intro s
    unfold State.dropAbsentHeads
    split
    · rfl
    · split
      · rw [ih]; simp
      · rfl

@[simp] theorem State.checkHead_engine (s : State) : s.checkHead.engine = s.engine := by
  simp [State.checkHead]

@[simp] theorem State.dropAbsentHeads_seg (fuel : Nat) :
    ∀ s : State, (State.dropAbsentHeads fuel s).seg = s.seg := by
  induction fuel with
  | zero => intro s; rfl
  | succ n ih =>
    intro s
    unfold State.dropAbsentHeads
    split
    · rfl
    · split
      · rw [ih]; simp
      · rfl

@[simp] theorem State.checkHead_seg (s : State) : s.checkHead.seg = s.seg := by
  simp [State.checkHead]

@[simp] theorem State.dropAbsentHeads_segRst (fuel : Nat) :
    ∀ s : State, (State.dropAbsentHeads fuel s).segRst = s.segRst := by
  induction fuel with
  | zero => intro s; rfl
  | succ n ih =>
    intro s
    unfold State.dropAbsentHeads
    split
    · rfl
    · split
      · rw [ih]; simp
      · rfl

@[simp] theorem State.checkHead_segRst (s : State) : s.checkHead.segRst = s.segRst := by
  simp [State.checkHead]

@[simp] theorem State.dropAbsentHeads_segAttn (fuel : Nat) :
    ∀ s : State, (State.dropAbsentHeads fuel s).segAttn = s.segAttn := by
  induction fuel with
  | zero => intro s; rfl
  | succ n ih =>
    intro s
    unfold State.dropAbsentHeads
    split
    · rfl
    · split
      · rw [ih]; simp
      · rfl

@[simp] theorem State.checkHead_segAttn (s : State) : s.checkHead.segAttn = s.segAttn := by
  simp [State.checkHead]

@[simp] theorem State.dropAbsentHeads_nodes (fuel : Nat) :
    ∀ s : State, (State.dropAbsentHeads fuel s).nodes = s.nodes := by
  induction fuel with
  | zero => intro s; rfl
  | succ n ih =>
    intro s
    unfold State.dropAbsentHeads
    split
    · rfl
    · split
      · rw [ih]; simp
      · rfl

@[simp] theorem State.checkHead_nodes (s : State) : s.checkHead.nodes = s.nodes := by
  simp [State.checkHead]

@[simp] theorem State.dropAbsentHeads_attn (fuel : Nat) :
    ∀ s : State, (State.dropAbsentHeads fuel s).attn = s.attn := by
  induction fuel with
  | zero => intro s; rfl
  | succ n ih =>
    intro s
    unfold State.dropAbsentHeads
    split
    · rfl
    · split
      · rw [ih]; simp
      · rfl

@[simp] theorem State.checkHead_attn (s : State) : s.checkHead.attn = s.attn := by
  simp [State.checkHead]

@[simp] theorem State.dropAbsentHeads_link (fuel : Nat) :
    ∀ s : State, (State.dropAbsentHeads fuel s).link = s.link := by
  induction fuel with
  | zero => intro s; rfl
  | succ n ih =>
    intro s
    unfold State.dropAbsentHeads
    split
    · rfl
    · split
      · rw [ih]; simp
      · rfl

@[simp] theorem State.checkHead_link (s : State) : s.checkHead.link = s.link := by
  simp [State.checkHead]

@[simp] theorem State.dropAbsentHeads_params (fuel : Nat) :
    ∀ s : State, (State.dropAbsentHeads fuel s).params = s.params := by
  induction fuel with
  | zero => intro s; rfl
  | succ n ih =>
    intro s
    unfold State.dropAbsentHeads
    split
    · rfl
    · split
      · rw [ih]; simp
      · rfl

@[simp] theorem State.checkHead_params (s : State) : s.checkHead.params = s.params := by
  simp [State.checkHead]

@[simp] theorem State.dropAbsentHeads_pending (fuel : Nat) :
    ∀ s : State, (State.dropAbsentHeads fuel s).pending = s.pending := by
  induction fuel with
  | zero => intro s; rfl
  | succ n ih =>
    intro s
    unfold State.dropAbsentHeads
    split
    · rfl
    · split
      · rw [ih]; simp
      · rfl

@[simp] theorem State.checkHead_pending (s : State) : s.checkHead.pending = s.pending := by
  simp [State.checkHead]

@[simp] theorem State.dropAbsentHeads_pwq_nextNumber (fuel : Nat) :
    ∀ s : State, (State.dropAbsentHeads fuel s).pwq.nextNumber = s.pwq.nextNumber := by
  induction fuel with
  | zero => intro s; rfl
  | succ n ih =>
    intro s
    unfold State.dropAbsentHeads
    split
    · rfl
    · split
      · rw [ih]; simp
      · rfl

@[simp] theorem State.checkHead_pwq_nextNumber (s : State) : s.checkHead.pwq.nextNumber = s.pwq.nextNumber := by
  simp [State.checkHead]

@[simp] theorem State.dropAbsentHeads_notices_resend (fuel : Nat) :
    ∀ s : State, (State.dropAbsentHeads fuel s).notices.resend = s.notices.resend := by
  induction fuel with
  | zero => intro s; rfl
  | succ n ih =>
    intro s
    unfold State.dropAbsentHeads
    split
    · rfl
    · split
      · rw [ih]; simp
      · rfl

@[simp] theorem State.checkHead_notices_resend (s : State) : s.checkHead.notices.resend = s.notices.resend := by
  simp [State.checkHead]

/-! ### offerSlot -/

@[simp] theorem State.offerSlot_held (l : List SlotId) :
    ∀ s : State, (State.offerSlot l s).1.held = s.held := by
  induction l with
  | nil => intro s; rfl
  | cons i rest ih =>
    intro s
    unfold State.offerSlot
    split
    · rw [ih]; simp
    · rfl

@[simp] theorem State.offerSlot_pwq (l : List SlotId) :
    ∀ s : State, (State.offerSlot l s).1.pwq = s.pwq := by
  induction l with
  | nil => intro s; rfl
  | cons i rest ih =>
    intro s
    unfold State.offerSlot
    split
    · rw [ih]; simp
    · rfl

@[simp] theorem State.offerSlot_sched (l : List SlotId) :
    ∀ s : State, (State.offerSlot l s).1.sched = s.sched := by
  induction l with
  | nil => intro s; rfl
  | cons i rest ih =>
    intro s
    unfold State.offerSlot
    split
    · rw [ih]; simp
    · rfl

@[simp] theorem State.offerSlot_engine (l : List SlotId) :
    ∀ s : State, (State.offerSlot l s).1.engine = s.engine := by
  induction l with
  | nil => intro s; rfl
  | cons i rest ih =>
    intro s
    unfold State.offerSlot
    split
    · rw [ih]; simp
    · rfl

@[simp] theorem State.offerSlot_seg (l : List SlotId) :
    ∀ s : State, (State.offerSlot l s).1.seg = s.seg := by
  induction l with
  | nil => intro s; rfl
  | cons i rest ih =>
    intro s
    unfold State.offerSlot
    split
    · rw [ih]; simp
    · rfl

@[simp] theorem State.offerSlot_segRst (l : List SlotId) :
    ∀ s : State, (State.offerSlot l s).1.segRst = s.segRst := by
  induction l with
  | nil => intro s; rfl
  | cons i rest ih =>
    intro s
    unfold State.offerSlot
    split
    · rw [ih]; simp
    · rfl

@[simp] theorem State.offerSlot_segAttn (l : List SlotId) :
    ∀ s : State, (State.offerSlot l s).1.segAttn = s.segAttn := by
  induction l with
  | nil => intro s; rfl
  | cons i rest ih =>
    intro s
    unfold State.offerSlot
    split
    · rw [ih]; simp
    · rfl

@[simp] theorem State.offerSlot_nodes (l : List SlotId) :
    ∀ s : State, (State.offerSlot l s).1.nodes = s.nodes := by
  induction l with
  | nil => intro s; rfl
  | cons i rest ih =>
    intro s
    unfold State.offerSlot
    split
    · rw [ih]; simp
    · rfl

@[simp] theorem State.offerSlot_attn (l : List SlotId) :
    ∀ s : State, (State.offerSlot l s).1.attn = s.attn := by
  induction l with
  | nil => intro s; rfl
  | cons i rest ih =>
    intro s
    unfold State.offerSlot
    split
    · rw [ih]; simp
    · rfl

@[simp] theorem State.offerSlot_link (l : List SlotId) :
    ∀ s : State, (State.offerSlot l s).1.link = s.link := by
  induction l with
  | nil => intro s; rfl
  | cons i rest ih =>
    intro s
    unfold State.offerSlot
    split
    · rw [ih]; simp
    · rfl

@[simp] theorem State.offerSlot_params (l : List SlotId) :
    ∀ s : State, (State.offerSlot l s).1.params = s.params := by
  induction l with
  | nil => intro s; rfl
  | cons i rest ih =>
    intro s
    unfold State.offerSlot
    split
    · rw [ih]; simp
    · rfl

@[simp] theorem State.offerSlot_pending (l : List SlotId) :
    ∀ s : State, (State.offerSlot l s).1.pending = s.pending := by
  induction l with
  | nil => intro s; rfl
  | cons i rest ih =>
    intro s
    unfold State.offerSlot
    split
    · rw [ih]; simp
    · rfl

@[simp] theorem State.offerSlot_notices_queue (l : List SlotId) :
    ∀ s : State, (State.offerSlot l s).1.notices.queue = s.notices.queue := by
  induction l with
  | nil => intro s; rfl
  | cons i rest ih =>
    intro s
    unfold State.offerSlot
    split
    · rw [ih]; simp
    · rfl

@[simp] theorem State.offerSlot_notices_next (l : List SlotId) :
    ∀ s : State, (State.offerSlot l s).1.notices.next = s.notices.next := by
  induction l with
  | nil => intro s; rfl
  | cons i rest ih =>
    intro s
    unfold State.offerSlot
    split
    · rw [ih]; simp
    · rfl

@[simp] theorem State.offerSlot_notices_lostFaults (l : List SlotId) :
    ∀ s : State, (State.offerSlot l s).1.notices.lostFaults = s.notices.lostFaults := by
  induction l with
  | nil => intro s; rfl
  | cons i rest ih =>
    intro s
    unfold State.offerSlot
    split
    · rw [ih]; simp
    · rfl

@[simp] theorem State.offerSlot_notices_resend (l : List SlotId) :
    ∀ s : State, (State.offerSlot l s).1.notices.resend = s.notices.resend := by
  induction l with
  | nil => intro s; rfl
  | cons i rest ih =>
    intro s
    unfold State.offerSlot
    split
    · rw [ih]; simp
    · rfl

/-! ### startTransaction -/

@[simp] theorem State.startTransaction_held (s : State) (r : Requester) (c : Command) :
    (s.startTransaction r c).held = s.held := by
  simp [State.startTransaction]

@[simp] theorem State.startTransaction_pwq (s : State) (r : Requester) (c : Command) :
    (s.startTransaction r c).pwq = s.pwq := by
  simp [State.startTransaction]

@[simp] theorem State.startTransaction_drt (s : State) (r : Requester) (c : Command) :
    (s.startTransaction r c).drt = s.drt := by
  simp [State.startTransaction]

@[simp] theorem State.startTransaction_sched (s : State) (r : Requester) (c : Command) :
    (s.startTransaction r c).sched = s.sched := by
  simp [State.startTransaction]

@[simp] theorem State.startTransaction_seg (s : State) (r : Requester) (c : Command) :
    (s.startTransaction r c).seg = s.seg := by
  simp [State.startTransaction]

@[simp] theorem State.startTransaction_segRst (s : State) (r : Requester) (c : Command) :
    (s.startTransaction r c).segRst = s.segRst := by
  simp [State.startTransaction]

@[simp] theorem State.startTransaction_segAttn (s : State) (r : Requester) (c : Command) :
    (s.startTransaction r c).segAttn = s.segAttn := by
  simp [State.startTransaction]

@[simp] theorem State.startTransaction_nodes (s : State) (r : Requester) (c : Command) :
    (s.startTransaction r c).nodes = s.nodes := by
  simp [State.startTransaction]

@[simp] theorem State.startTransaction_attn (s : State) (r : Requester) (c : Command) :
    (s.startTransaction r c).attn = s.attn := by
  simp [State.startTransaction]

@[simp] theorem State.startTransaction_notices (s : State) (r : Requester) (c : Command) :
    (s.startTransaction r c).notices = s.notices := by
  simp [State.startTransaction]

@[simp] theorem State.startTransaction_link (s : State) (r : Requester) (c : Command) :
    (s.startTransaction r c).link = s.link := by
  simp [State.startTransaction]

@[simp] theorem State.startTransaction_params (s : State) (r : Requester) (c : Command) :
    (s.startTransaction r c).params = s.params := by
  simp [State.startTransaction]

@[simp] theorem State.startTransaction_pending (s : State) (r : Requester) (c : Command) :
    (s.startTransaction r c).pending = s.pending := by
  simp [State.startTransaction]

/-! ### grantHead -/

@[simp] theorem State.grantHead_held (s : State) (q : HeadedQueue) : (s.grantHead q).held = s.held := by
  simp [State.grantHead]

@[simp] theorem State.grantHead_drt (s : State) (q : HeadedQueue) : (s.grantHead q).drt = s.drt := by
  simp [State.grantHead]

@[simp] theorem State.grantHead_sched (s : State) (q : HeadedQueue) : (s.grantHead q).sched = s.sched := by
  simp [State.grantHead]

@[simp] theorem State.grantHead_seg (s : State) (q : HeadedQueue) : (s.grantHead q).seg = s.seg := by
  simp [State.grantHead]

@[simp] theorem State.grantHead_segRst (s : State) (q : HeadedQueue) : (s.grantHead q).segRst = s.segRst := by
  simp [State.grantHead]

@[simp] theorem State.grantHead_segAttn (s : State) (q : HeadedQueue) : (s.grantHead q).segAttn = s.segAttn := by
  simp [State.grantHead]

@[simp] theorem State.grantHead_nodes (s : State) (q : HeadedQueue) : (s.grantHead q).nodes = s.nodes := by
  simp [State.grantHead]

@[simp] theorem State.grantHead_attn (s : State) (q : HeadedQueue) : (s.grantHead q).attn = s.attn := by
  simp [State.grantHead]

@[simp] theorem State.grantHead_notices (s : State) (q : HeadedQueue) : (s.grantHead q).notices = s.notices := by
  simp [State.grantHead]

@[simp] theorem State.grantHead_link (s : State) (q : HeadedQueue) : (s.grantHead q).link = s.link := by
  simp [State.grantHead]

@[simp] theorem State.grantHead_params (s : State) (q : HeadedQueue) : (s.grantHead q).params = s.params := by
  simp [State.grantHead]

@[simp] theorem State.grantHead_pending (s : State) (q : HeadedQueue) : (s.grantHead q).pending = s.pending := by
  simp [State.grantHead]

@[simp] theorem State.grantHead_pwq_nextNumber (s : State) (q : HeadedQueue) :
    (s.grantHead q).pwq.nextNumber = s.pwq.nextNumber := by
  simp [State.grantHead]

@[simp] theorem State.grantHead_pwq_lossCount (s : State) (q : HeadedQueue) :
    (s.grantHead q).pwq.lossCount = s.pwq.lossCount := by
  simp [State.grantHead]

/-! ### grantSlot -/

@[simp] theorem State.grantSlot_held (s : State) (i : SlotId) (sl : Slot) : (s.grantSlot i sl).held = s.held := by
  simp [State.grantSlot]

@[simp] theorem State.grantSlot_pwq (s : State) (i : SlotId) (sl : Slot) : (s.grantSlot i sl).pwq = s.pwq := by
  simp [State.grantSlot]

@[simp] theorem State.grantSlot_sched (s : State) (i : SlotId) (sl : Slot) : (s.grantSlot i sl).sched = s.sched := by
  simp [State.grantSlot]

@[simp] theorem State.grantSlot_seg (s : State) (i : SlotId) (sl : Slot) : (s.grantSlot i sl).seg = s.seg := by
  simp [State.grantSlot]

@[simp] theorem State.grantSlot_segRst (s : State) (i : SlotId) (sl : Slot) : (s.grantSlot i sl).segRst = s.segRst := by
  simp [State.grantSlot]

@[simp] theorem State.grantSlot_segAttn (s : State) (i : SlotId) (sl : Slot) :
    (s.grantSlot i sl).segAttn = s.segAttn := by
  simp [State.grantSlot]

@[simp] theorem State.grantSlot_nodes (s : State) (i : SlotId) (sl : Slot) : (s.grantSlot i sl).nodes = s.nodes := by
  simp [State.grantSlot]

@[simp] theorem State.grantSlot_attn (s : State) (i : SlotId) (sl : Slot) : (s.grantSlot i sl).attn = s.attn := by
  simp [State.grantSlot]

@[simp] theorem State.grantSlot_notices (s : State) (i : SlotId) (sl : Slot) :
    (s.grantSlot i sl).notices = s.notices := by
  simp [State.grantSlot]

@[simp] theorem State.grantSlot_link (s : State) (i : SlotId) (sl : Slot) : (s.grantSlot i sl).link = s.link := by
  simp [State.grantSlot]

@[simp] theorem State.grantSlot_params (s : State) (i : SlotId) (sl : Slot) : (s.grantSlot i sl).params = s.params := by
  simp [State.grantSlot]

@[simp] theorem State.grantSlot_pending (s : State) (i : SlotId) (sl : Slot) :
    (s.grantSlot i sl).pending = s.pending := by
  simp [State.grantSlot]

/-! ### grantFetch -/

@[simp] theorem State.grantFetch_held (s : State) (n : NodeId) : (s.grantFetch n).held = s.held := by
  simp [State.grantFetch]

@[simp] theorem State.grantFetch_pwq (s : State) (n : NodeId) : (s.grantFetch n).pwq = s.pwq := by
  simp [State.grantFetch]

@[simp] theorem State.grantFetch_drt (s : State) (n : NodeId) : (s.grantFetch n).drt = s.drt := by
  simp [State.grantFetch]

@[simp] theorem State.grantFetch_sched (s : State) (n : NodeId) : (s.grantFetch n).sched = s.sched := by
  simp [State.grantFetch]

@[simp] theorem State.grantFetch_seg (s : State) (n : NodeId) : (s.grantFetch n).seg = s.seg := by
  simp [State.grantFetch]

@[simp] theorem State.grantFetch_segRst (s : State) (n : NodeId) : (s.grantFetch n).segRst = s.segRst := by
  simp [State.grantFetch]

@[simp] theorem State.grantFetch_segAttn (s : State) (n : NodeId) : (s.grantFetch n).segAttn = s.segAttn := by
  simp [State.grantFetch]

@[simp] theorem State.grantFetch_nodes (s : State) (n : NodeId) : (s.grantFetch n).nodes = s.nodes := by
  simp [State.grantFetch]

@[simp] theorem State.grantFetch_notices (s : State) (n : NodeId) : (s.grantFetch n).notices = s.notices := by
  simp [State.grantFetch]

@[simp] theorem State.grantFetch_link (s : State) (n : NodeId) : (s.grantFetch n).link = s.link := by
  simp [State.grantFetch]

@[simp] theorem State.grantFetch_params (s : State) (n : NodeId) : (s.grantFetch n).params = s.params := by
  simp [State.grantFetch]

@[simp] theorem State.grantFetch_pending (s : State) (n : NodeId) : (s.grantFetch n).pending = s.pending := by
  simp [State.grantFetch]

@[simp] theorem State.grantFetch_attn_members (s : State) (n : NodeId) :
    (s.grantFetch n).attn.members = s.attn.members := by
  simp [State.grantFetch]

@[simp] theorem State.grantFetch_attn_holdoff (s : State) (n : NodeId) :
    (s.grantFetch n).attn.holdoff = s.attn.holdoff := by
  simp [State.grantFetch]

/-! ### grantSurvey -/

@[simp] theorem State.grantSurvey_held (s : State) : s.grantSurvey.held = s.held := by
  simp [State.grantSurvey]

@[simp] theorem State.grantSurvey_pwq (s : State) : s.grantSurvey.pwq = s.pwq := by
  simp [State.grantSurvey]

@[simp] theorem State.grantSurvey_drt (s : State) : s.grantSurvey.drt = s.drt := by
  simp [State.grantSurvey]

@[simp] theorem State.grantSurvey_sched (s : State) : s.grantSurvey.sched = s.sched := by
  simp [State.grantSurvey]

@[simp] theorem State.grantSurvey_seg (s : State) : s.grantSurvey.seg = s.seg := by
  simp [State.grantSurvey]

@[simp] theorem State.grantSurvey_segRst (s : State) : s.grantSurvey.segRst = s.segRst := by
  simp [State.grantSurvey]

@[simp] theorem State.grantSurvey_segAttn (s : State) : s.grantSurvey.segAttn = s.segAttn := by
  simp [State.grantSurvey]

@[simp] theorem State.grantSurvey_nodes (s : State) : s.grantSurvey.nodes = s.nodes := by
  simp [State.grantSurvey]

@[simp] theorem State.grantSurvey_attn (s : State) : s.grantSurvey.attn = s.attn := by
  simp [State.grantSurvey]

@[simp] theorem State.grantSurvey_notices (s : State) : s.grantSurvey.notices = s.notices := by
  simp [State.grantSurvey]

@[simp] theorem State.grantSurvey_link (s : State) : s.grantSurvey.link = s.link := by
  simp [State.grantSurvey]

@[simp] theorem State.grantSurvey_params (s : State) : s.grantSurvey.params = s.params := by
  simp [State.grantSurvey]

@[simp] theorem State.grantSurvey_pending (s : State) : s.grantSurvey.pending = s.pending := by
  simp [State.grantSurvey]

/-! ### grant -/

@[simp] theorem State.grant_held (s : State) (g : Choice) (d : Option SlotId) (c : Option CollectOffer) :
    (s.grant g d c).held = s.held := by
  unfold State.grant; repeat' split
  all_goals simp

@[simp] theorem State.grant_sched (s : State) (g : Choice) (d : Option SlotId) (c : Option CollectOffer) :
    (s.grant g d c).sched = s.sched := by
  unfold State.grant; repeat' split
  all_goals simp

@[simp] theorem State.grant_seg (s : State) (g : Choice) (d : Option SlotId) (c : Option CollectOffer) :
    (s.grant g d c).seg = s.seg := by
  unfold State.grant; repeat' split
  all_goals simp

@[simp] theorem State.grant_segRst (s : State) (g : Choice) (d : Option SlotId) (c : Option CollectOffer) :
    (s.grant g d c).segRst = s.segRst := by
  unfold State.grant; repeat' split
  all_goals simp

@[simp] theorem State.grant_segAttn (s : State) (g : Choice) (d : Option SlotId) (c : Option CollectOffer) :
    (s.grant g d c).segAttn = s.segAttn := by
  unfold State.grant; repeat' split
  all_goals simp

@[simp] theorem State.grant_nodes (s : State) (g : Choice) (d : Option SlotId) (c : Option CollectOffer) :
    (s.grant g d c).nodes = s.nodes := by
  unfold State.grant; repeat' split
  all_goals simp

@[simp] theorem State.grant_notices (s : State) (g : Choice) (d : Option SlotId) (c : Option CollectOffer) :
    (s.grant g d c).notices = s.notices := by
  unfold State.grant; repeat' split
  all_goals simp

@[simp] theorem State.grant_link (s : State) (g : Choice) (d : Option SlotId) (c : Option CollectOffer) :
    (s.grant g d c).link = s.link := by
  unfold State.grant; repeat' split
  all_goals simp

@[simp] theorem State.grant_params (s : State) (g : Choice) (d : Option SlotId) (c : Option CollectOffer) :
    (s.grant g d c).params = s.params := by
  unfold State.grant; repeat' split
  all_goals simp

@[simp] theorem State.grant_pending (s : State) (g : Choice) (d : Option SlotId) (c : Option CollectOffer) :
    (s.grant g d c).pending = s.pending := by
  unfold State.grant; repeat' split
  all_goals simp

@[simp] theorem State.grant_pwq_nextNumber (s : State) (g : Choice) (d : Option SlotId) (c : Option CollectOffer) :
    (s.grant g d c).pwq.nextNumber = s.pwq.nextNumber := by
  unfold State.grant; repeat' split
  all_goals simp

@[simp] theorem State.grant_pwq_lossCount (s : State) (g : Choice) (d : Option SlotId) (c : Option CollectOffer) :
    (s.grant g d c).pwq.lossCount = s.pwq.lossCount := by
  unfold State.grant; repeat' split
  all_goals simp

@[simp] theorem State.grant_attn_members (s : State) (g : Choice) (d : Option SlotId) (c : Option CollectOffer) :
    (s.grant g d c).attn.members = s.attn.members := by
  unfold State.grant; repeat' split
  all_goals simp

@[simp] theorem State.grant_attn_holdoff (s : State) (g : Choice) (d : Option SlotId) (c : Option CollectOffer) :
    (s.grant g d c).attn.holdoff = s.attn.holdoff := by
  unfold State.grant; repeat' split
  all_goals simp

/-! ### grantNext -/

@[simp] theorem State.grantNext_held (s : State) (d : Option SlotId) : (s.grantNext d).held = s.held := by
  unfold State.grantNext; split <;> simp

@[simp] theorem State.grantNext_seg (s : State) (d : Option SlotId) : (s.grantNext d).seg = s.seg := by
  unfold State.grantNext; split <;> simp

@[simp] theorem State.grantNext_segRst (s : State) (d : Option SlotId) : (s.grantNext d).segRst = s.segRst := by
  unfold State.grantNext; split <;> simp

@[simp] theorem State.grantNext_segAttn (s : State) (d : Option SlotId) : (s.grantNext d).segAttn = s.segAttn := by
  unfold State.grantNext; split <;> simp

@[simp] theorem State.grantNext_nodes (s : State) (d : Option SlotId) : (s.grantNext d).nodes = s.nodes := by
  unfold State.grantNext; split <;> simp

@[simp] theorem State.grantNext_notices (s : State) (d : Option SlotId) : (s.grantNext d).notices = s.notices := by
  unfold State.grantNext; split <;> simp

@[simp] theorem State.grantNext_link (s : State) (d : Option SlotId) : (s.grantNext d).link = s.link := by
  unfold State.grantNext; split <;> simp

@[simp] theorem State.grantNext_params (s : State) (d : Option SlotId) : (s.grantNext d).params = s.params := by
  unfold State.grantNext; split <;> simp

@[simp] theorem State.grantNext_pending (s : State) (d : Option SlotId) : (s.grantNext d).pending = s.pending := by
  unfold State.grantNext; split <;> simp

@[simp] theorem State.grantNext_pwq_nextNumber (s : State) (d : Option SlotId) :
    (s.grantNext d).pwq.nextNumber = s.pwq.nextNumber := by
  unfold State.grantNext; split <;> simp

@[simp] theorem State.grantNext_pwq_lossCount (s : State) (d : Option SlotId) :
    (s.grantNext d).pwq.lossCount = s.pwq.lossCount := by
  unfold State.grantNext; split <;> simp

@[simp] theorem State.grantNext_attn_members (s : State) (d : Option SlotId) :
    (s.grantNext d).attn.members = s.attn.members := by
  unfold State.grantNext; split <;> simp

@[simp] theorem State.grantNext_attn_holdoff (s : State) (d : Option SlotId) :
    (s.grantNext d).attn.holdoff = s.attn.holdoff := by
  unfold State.grantNext; split <;> simp

/-! ### schedule -/

@[simp] theorem State.schedule_held (s : State) : s.schedule.held = s.held := by
  unfold State.schedule; split <;> simp

@[simp] theorem State.schedule_seg (s : State) : s.schedule.seg = s.seg := by
  unfold State.schedule; split <;> simp

@[simp] theorem State.schedule_segRst (s : State) : s.schedule.segRst = s.segRst := by
  unfold State.schedule; split <;> simp

@[simp] theorem State.schedule_segAttn (s : State) : s.schedule.segAttn = s.segAttn := by
  unfold State.schedule; split <;> simp

@[simp] theorem State.schedule_nodes (s : State) : s.schedule.nodes = s.nodes := by
  unfold State.schedule; split <;> simp

@[simp] theorem State.schedule_link (s : State) : s.schedule.link = s.link := by
  unfold State.schedule; split <;> simp

@[simp] theorem State.schedule_params (s : State) : s.schedule.params = s.params := by
  unfold State.schedule; split <;> simp

@[simp] theorem State.schedule_pending (s : State) : s.schedule.pending = s.pending := by
  unfold State.schedule; split <;> simp

@[simp] theorem State.schedule_pwq_nextNumber (s : State) : s.schedule.pwq.nextNumber = s.pwq.nextNumber := by
  unfold State.schedule; split <;> simp

@[simp] theorem State.schedule_pwq_lossCount (s : State) : s.schedule.pwq.lossCount = s.pwq.lossCount := by
  unfold State.schedule; split <;> simp

@[simp] theorem State.schedule_attn_holdoff (s : State) : s.schedule.attn.holdoff = s.attn.holdoff := by
  unfold State.schedule; split <;> simp

@[simp] theorem State.schedule_notices_queue (s : State) : s.schedule.notices.queue = s.notices.queue := by
  unfold State.schedule; split <;> simp

@[simp] theorem State.schedule_notices_next (s : State) : s.schedule.notices.next = s.notices.next := by
  unfold State.schedule; split <;> simp

@[simp] theorem State.schedule_notices_lostFaults (s : State) : s.schedule.notices.lostFaults = s.notices.lostFaults
    := by
  unfold State.schedule; split <;> simp

@[simp] theorem State.schedule_notices_resend (s : State) : s.schedule.notices.resend = s.notices.resend := by
  unfold State.schedule; split <;> simp

theorem State.grantHead_pwq_entries (s : State) (q : HeadedQueue) (h : s.pwq.queue = some q) :
    (s.grantHead q).pwq.entries = s.pwq.entries := by
  simp [State.grantHead, State.startTransaction, Pwq.entries, h]

@[simp] theorem State.grant_pwq_entries (s : State) (g : Choice) (d : Option SlotId) (c : Option CollectOffer) :
    (s.grant g d c).pwq.entries = s.pwq.entries := by
  unfold State.grant
  split
  · split
    · rename_i q h; exact State.grantHead_pwq_entries s q h
    · rfl
  · split
    · split <;> simp
    · rfl
  · split <;> simp

@[simp] theorem State.grantNext_pwq_entries (s : State) (d : Option SlotId) :
    (s.grantNext d).pwq.entries = s.pwq.entries := by
  unfold State.grantNext; split <;> simp

@[simp] theorem State.schedule_pwq_entries (s : State) : s.schedule.pwq.entries = s.pwq.entries := by
  unfold State.schedule; split <;> simp

@[simp] theorem State.startTransaction_engine_turnaround (s : State) (r : Requester) (c : Command) :
    (s.startTransaction r c).engine.turnaround = s.engine.turnaround := rfl

@[simp] theorem State.grant_engine_turnaround (s : State) (g : Choice) (d : Option SlotId) (c : Option CollectOffer) :
    (s.grant g d c).engine.turnaround = s.engine.turnaround := by
  unfold State.grant; repeat' split
  all_goals rfl

@[simp] theorem State.schedule_engine_turnaround (s : State) : s.schedule.engine.turnaround = s.engine.turnaround := by
  unfold State.schedule State.grantNext
  split
  · simp only; split <;> simp
  · rfl

/-! ### nodeOutcome -/

@[simp] theorem State.nodeOutcome_held (s : State) (cmd : Command) (o : SegOutcome) :
    (s.nodeOutcome cmd o).held = s.held := by
  unfold State.nodeOutcome; split <;> simp

@[simp] theorem State.nodeOutcome_pwq (s : State) (cmd : Command) (o : SegOutcome) :
    (s.nodeOutcome cmd o).pwq = s.pwq := by
  unfold State.nodeOutcome; split <;> simp

@[simp] theorem State.nodeOutcome_drt (s : State) (cmd : Command) (o : SegOutcome) :
    (s.nodeOutcome cmd o).drt = s.drt := by
  unfold State.nodeOutcome; split <;> simp

@[simp] theorem State.nodeOutcome_sched (s : State) (cmd : Command) (o : SegOutcome) :
    (s.nodeOutcome cmd o).sched = s.sched := by
  unfold State.nodeOutcome; split <;> simp

@[simp] theorem State.nodeOutcome_engine (s : State) (cmd : Command) (o : SegOutcome) :
    (s.nodeOutcome cmd o).engine = s.engine := by
  unfold State.nodeOutcome; split <;> simp

@[simp] theorem State.nodeOutcome_seg (s : State) (cmd : Command) (o : SegOutcome) :
    (s.nodeOutcome cmd o).seg = s.seg := by
  unfold State.nodeOutcome; split <;> simp

@[simp] theorem State.nodeOutcome_segRst (s : State) (cmd : Command) (o : SegOutcome) :
    (s.nodeOutcome cmd o).segRst = s.segRst := by
  unfold State.nodeOutcome; split <;> simp

@[simp] theorem State.nodeOutcome_segAttn (s : State) (cmd : Command) (o : SegOutcome) :
    (s.nodeOutcome cmd o).segAttn = s.segAttn := by
  unfold State.nodeOutcome; split <;> simp

@[simp] theorem State.nodeOutcome_attn (s : State) (cmd : Command) (o : SegOutcome) :
    (s.nodeOutcome cmd o).attn = s.attn := by
  unfold State.nodeOutcome; split <;> simp

@[simp] theorem State.nodeOutcome_notices (s : State) (cmd : Command) (o : SegOutcome) :
    (s.nodeOutcome cmd o).notices = s.notices := by
  unfold State.nodeOutcome; split <;> simp

@[simp] theorem State.nodeOutcome_link (s : State) (cmd : Command) (o : SegOutcome) :
    (s.nodeOutcome cmd o).link = s.link := by
  unfold State.nodeOutcome; split <;> simp

@[simp] theorem State.nodeOutcome_params (s : State) (cmd : Command) (o : SegOutcome) :
    (s.nodeOutcome cmd o).params = s.params := by
  unfold State.nodeOutcome; split <;> simp

@[simp] theorem State.nodeOutcome_counters (s : State) (cmd : Command) (o : SegOutcome) :
    (s.nodeOutcome cmd o).counters = s.counters := by
  unfold State.nodeOutcome; split <;> simp

@[simp] theorem State.nodeOutcome_pending (s : State) (cmd : Command) (o : SegOutcome) :
    (s.nodeOutcome cmd o).pending = s.pending := by
  unfold State.nodeOutcome; split <;> simp

/-! ### headDelivered -/

@[simp] theorem State.headDelivered_held (s : State) (q : HeadedQueue) : (s.headDelivered q).held = s.held := by
  simp [State.headDelivered]

@[simp] theorem State.headDelivered_sched (s : State) (q : HeadedQueue) : (s.headDelivered q).sched = s.sched := by
  simp [State.headDelivered]

@[simp] theorem State.headDelivered_engine (s : State) (q : HeadedQueue) : (s.headDelivered q).engine = s.engine := by
  simp [State.headDelivered]

@[simp] theorem State.headDelivered_seg (s : State) (q : HeadedQueue) : (s.headDelivered q).seg = s.seg := by
  simp [State.headDelivered]

@[simp] theorem State.headDelivered_segRst (s : State) (q : HeadedQueue) : (s.headDelivered q).segRst = s.segRst := by
  simp [State.headDelivered]

@[simp] theorem State.headDelivered_segAttn (s : State) (q : HeadedQueue) :
    (s.headDelivered q).segAttn = s.segAttn := by
  simp [State.headDelivered]

@[simp] theorem State.headDelivered_nodes (s : State) (q : HeadedQueue) : (s.headDelivered q).nodes = s.nodes := by
  simp [State.headDelivered]

@[simp] theorem State.headDelivered_attn (s : State) (q : HeadedQueue) : (s.headDelivered q).attn = s.attn := by
  simp [State.headDelivered]

@[simp] theorem State.headDelivered_link (s : State) (q : HeadedQueue) : (s.headDelivered q).link = s.link := by
  simp [State.headDelivered]

@[simp] theorem State.headDelivered_params (s : State) (q : HeadedQueue) : (s.headDelivered q).params = s.params := by
  simp [State.headDelivered]

@[simp] theorem State.headDelivered_pending (s : State) (q : HeadedQueue) :
    (s.headDelivered q).pending = s.pending := by
  simp [State.headDelivered]

@[simp] theorem State.headDelivered_pwq_nextNumber (s : State) (q : HeadedQueue) :
    (s.headDelivered q).pwq.nextNumber = s.pwq.nextNumber := by
  simp [State.headDelivered]

@[simp] theorem State.headDelivered_notices_resend (s : State) (q : HeadedQueue) :
    (s.headDelivered q).notices.resend = s.notices.resend := by
  simp [State.headDelivered]

/-! ### headAck -/

@[simp] theorem State.headAck_held (s : State) (q : HeadedQueue) (len : Nat) : (s.headAck q len).held = s.held := by
  unfold State.headAck; simp only; split <;> simp

@[simp] theorem State.headAck_sched (s : State) (q : HeadedQueue) (len : Nat) : (s.headAck q len).sched = s.sched := by
  unfold State.headAck; simp only; split <;> simp

@[simp] theorem State.headAck_engine (s : State) (q : HeadedQueue) (len : Nat) :
    (s.headAck q len).engine = s.engine := by
  unfold State.headAck; simp only; split <;> simp

@[simp] theorem State.headAck_seg (s : State) (q : HeadedQueue) (len : Nat) : (s.headAck q len).seg = s.seg := by
  unfold State.headAck; simp only; split <;> simp

@[simp] theorem State.headAck_segRst (s : State) (q : HeadedQueue) (len : Nat) :
    (s.headAck q len).segRst = s.segRst := by
  unfold State.headAck; simp only; split <;> simp

@[simp] theorem State.headAck_segAttn (s : State) (q : HeadedQueue) (len : Nat) :
    (s.headAck q len).segAttn = s.segAttn := by
  unfold State.headAck; simp only; split <;> simp

@[simp] theorem State.headAck_nodes (s : State) (q : HeadedQueue) (len : Nat) : (s.headAck q len).nodes = s.nodes := by
  unfold State.headAck; simp only; split <;> simp

@[simp] theorem State.headAck_attn (s : State) (q : HeadedQueue) (len : Nat) : (s.headAck q len).attn = s.attn := by
  unfold State.headAck; simp only; split <;> simp

@[simp] theorem State.headAck_link (s : State) (q : HeadedQueue) (len : Nat) : (s.headAck q len).link = s.link := by
  unfold State.headAck; simp only; split <;> simp

@[simp] theorem State.headAck_params (s : State) (q : HeadedQueue) (len : Nat) :
    (s.headAck q len).params = s.params := by
  unfold State.headAck; simp only; split <;> simp

@[simp] theorem State.headAck_pending (s : State) (q : HeadedQueue) (len : Nat) :
    (s.headAck q len).pending = s.pending := by
  unfold State.headAck; simp only; split <;> simp

@[simp] theorem State.headAck_pwq_nextNumber (s : State) (q : HeadedQueue) (len : Nat) :
    (s.headAck q len).pwq.nextNumber = s.pwq.nextNumber := by
  unfold State.headAck; simp only; split <;> simp

@[simp] theorem State.headAck_notices_resend (s : State) (q : HeadedQueue) (len : Nat) :
    (s.headAck q len).notices.resend = s.notices.resend := by
  unfold State.headAck; simp only; split <;> simp

/-! ### headRetry -/

@[simp] theorem State.headRetry_held (s : State) (q : HeadedQueue) (mark : Bool) :
    (s.headRetry q mark).held = s.held := by
  unfold State.headRetry; simp only; split <;> simp

@[simp] theorem State.headRetry_sched (s : State) (q : HeadedQueue) (mark : Bool) :
    (s.headRetry q mark).sched = s.sched := by
  unfold State.headRetry; simp only; split <;> simp

@[simp] theorem State.headRetry_engine (s : State) (q : HeadedQueue) (mark : Bool) :
    (s.headRetry q mark).engine = s.engine := by
  unfold State.headRetry; simp only; split <;> simp

@[simp] theorem State.headRetry_seg (s : State) (q : HeadedQueue) (mark : Bool) : (s.headRetry q mark).seg = s.seg := by
  unfold State.headRetry; simp only; split <;> simp

@[simp] theorem State.headRetry_segRst (s : State) (q : HeadedQueue) (mark : Bool) :
    (s.headRetry q mark).segRst = s.segRst := by
  unfold State.headRetry; simp only; split <;> simp

@[simp] theorem State.headRetry_segAttn (s : State) (q : HeadedQueue) (mark : Bool) :
    (s.headRetry q mark).segAttn = s.segAttn := by
  unfold State.headRetry; simp only; split <;> simp

@[simp] theorem State.headRetry_nodes (s : State) (q : HeadedQueue) (mark : Bool) :
    (s.headRetry q mark).nodes = s.nodes := by
  unfold State.headRetry; simp only; split <;> simp

@[simp] theorem State.headRetry_attn (s : State) (q : HeadedQueue) (mark : Bool) :
    (s.headRetry q mark).attn = s.attn := by
  unfold State.headRetry; simp only; split <;> simp

@[simp] theorem State.headRetry_link (s : State) (q : HeadedQueue) (mark : Bool) :
    (s.headRetry q mark).link = s.link := by
  unfold State.headRetry; simp only; split <;> simp

@[simp] theorem State.headRetry_params (s : State) (q : HeadedQueue) (mark : Bool) :
    (s.headRetry q mark).params = s.params := by
  unfold State.headRetry; simp only; split <;> simp

@[simp] theorem State.headRetry_pending (s : State) (q : HeadedQueue) (mark : Bool) :
    (s.headRetry q mark).pending = s.pending := by
  unfold State.headRetry; simp only; split <;> simp

@[simp] theorem State.headRetry_pwq_nextNumber (s : State) (q : HeadedQueue) (mark : Bool) :
    (s.headRetry q mark).pwq.nextNumber = s.pwq.nextNumber := by
  unfold State.headRetry; simp only; split <;> simp

@[simp] theorem State.headRetry_notices_resend (s : State) (q : HeadedQueue) (mark : Bool) :
    (s.headRetry q mark).notices.resend = s.notices.resend := by
  unfold State.headRetry; simp only; split <;> simp

/-! ### headOutcome -/

@[simp] theorem State.headOutcome_held (s : State) (cmd : Command) (o : SegOutcome) :
    (s.headOutcome cmd o).held = s.held := by
  unfold State.headOutcome; repeat' split
  all_goals simp

@[simp] theorem State.headOutcome_sched (s : State) (cmd : Command) (o : SegOutcome) :
    (s.headOutcome cmd o).sched = s.sched := by
  unfold State.headOutcome; repeat' split
  all_goals simp

@[simp] theorem State.headOutcome_engine (s : State) (cmd : Command) (o : SegOutcome) :
    (s.headOutcome cmd o).engine = s.engine := by
  unfold State.headOutcome; repeat' split
  all_goals simp

@[simp] theorem State.headOutcome_seg (s : State) (cmd : Command) (o : SegOutcome) :
    (s.headOutcome cmd o).seg = s.seg := by
  unfold State.headOutcome; repeat' split
  all_goals simp

@[simp] theorem State.headOutcome_segRst (s : State) (cmd : Command) (o : SegOutcome) :
    (s.headOutcome cmd o).segRst = s.segRst := by
  unfold State.headOutcome; repeat' split
  all_goals simp

@[simp] theorem State.headOutcome_segAttn (s : State) (cmd : Command) (o : SegOutcome) :
    (s.headOutcome cmd o).segAttn = s.segAttn := by
  unfold State.headOutcome; repeat' split
  all_goals simp

@[simp] theorem State.headOutcome_nodes (s : State) (cmd : Command) (o : SegOutcome) :
    (s.headOutcome cmd o).nodes = s.nodes := by
  unfold State.headOutcome; repeat' split
  all_goals simp

@[simp] theorem State.headOutcome_attn (s : State) (cmd : Command) (o : SegOutcome) :
    (s.headOutcome cmd o).attn = s.attn := by
  unfold State.headOutcome; repeat' split
  all_goals simp

@[simp] theorem State.headOutcome_link (s : State) (cmd : Command) (o : SegOutcome) :
    (s.headOutcome cmd o).link = s.link := by
  unfold State.headOutcome; repeat' split
  all_goals simp

@[simp] theorem State.headOutcome_params (s : State) (cmd : Command) (o : SegOutcome) :
    (s.headOutcome cmd o).params = s.params := by
  unfold State.headOutcome; repeat' split
  all_goals simp

@[simp] theorem State.headOutcome_pending (s : State) (cmd : Command) (o : SegOutcome) :
    (s.headOutcome cmd o).pending = s.pending := by
  unfold State.headOutcome; repeat' split
  all_goals simp

@[simp] theorem State.headOutcome_pwq_nextNumber (s : State) (cmd : Command) (o : SegOutcome) :
    (s.headOutcome cmd o).pwq.nextNumber = s.pwq.nextNumber := by
  unfold State.headOutcome; repeat' split
  all_goals simp

@[simp] theorem State.headOutcome_notices_resend (s : State) (cmd : Command) (o : SegOutcome) :
    (s.headOutcome cmd o).notices.resend = s.notices.resend := by
  unfold State.headOutcome; repeat' split
  all_goals simp

/-! ### slotAdvance -/

@[simp] theorem State.slotAdvance_held (s : State) (i : SlotId) (sl : Slot) (done : Bool) :
    (s.slotAdvance i sl done).held = s.held := by
  unfold State.slotAdvance; split <;> simp

@[simp] theorem State.slotAdvance_pwq (s : State) (i : SlotId) (sl : Slot) (done : Bool) :
    (s.slotAdvance i sl done).pwq = s.pwq := by
  unfold State.slotAdvance; split <;> simp

@[simp] theorem State.slotAdvance_sched (s : State) (i : SlotId) (sl : Slot) (done : Bool) :
    (s.slotAdvance i sl done).sched = s.sched := by
  unfold State.slotAdvance; split <;> simp

@[simp] theorem State.slotAdvance_engine (s : State) (i : SlotId) (sl : Slot) (done : Bool) :
    (s.slotAdvance i sl done).engine = s.engine := by
  unfold State.slotAdvance; split <;> simp

@[simp] theorem State.slotAdvance_seg (s : State) (i : SlotId) (sl : Slot) (done : Bool) :
    (s.slotAdvance i sl done).seg = s.seg := by
  unfold State.slotAdvance; split <;> simp

@[simp] theorem State.slotAdvance_segRst (s : State) (i : SlotId) (sl : Slot) (done : Bool) :
    (s.slotAdvance i sl done).segRst = s.segRst := by
  unfold State.slotAdvance; split <;> simp

@[simp] theorem State.slotAdvance_segAttn (s : State) (i : SlotId) (sl : Slot) (done : Bool) :
    (s.slotAdvance i sl done).segAttn = s.segAttn := by
  unfold State.slotAdvance; split <;> simp

@[simp] theorem State.slotAdvance_nodes (s : State) (i : SlotId) (sl : Slot) (done : Bool) :
    (s.slotAdvance i sl done).nodes = s.nodes := by
  unfold State.slotAdvance; split <;> simp

@[simp] theorem State.slotAdvance_attn (s : State) (i : SlotId) (sl : Slot) (done : Bool) :
    (s.slotAdvance i sl done).attn = s.attn := by
  unfold State.slotAdvance; split <;> simp

@[simp] theorem State.slotAdvance_link (s : State) (i : SlotId) (sl : Slot) (done : Bool) :
    (s.slotAdvance i sl done).link = s.link := by
  unfold State.slotAdvance; split <;> simp

@[simp] theorem State.slotAdvance_params (s : State) (i : SlotId) (sl : Slot) (done : Bool) :
    (s.slotAdvance i sl done).params = s.params := by
  unfold State.slotAdvance; split <;> simp

@[simp] theorem State.slotAdvance_pending (s : State) (i : SlotId) (sl : Slot) (done : Bool) :
    (s.slotAdvance i sl done).pending = s.pending := by
  unfold State.slotAdvance; split <;> simp

@[simp] theorem State.slotAdvance_notices_queue (s : State) (i : SlotId) (sl : Slot) (done : Bool) :
    (s.slotAdvance i sl done).notices.queue = s.notices.queue := by
  unfold State.slotAdvance; split <;> simp

@[simp] theorem State.slotAdvance_notices_next (s : State) (i : SlotId) (sl : Slot) (done : Bool) :
    (s.slotAdvance i sl done).notices.next = s.notices.next := by
  unfold State.slotAdvance; split <;> simp

@[simp] theorem State.slotAdvance_notices_lostFaults (s : State) (i : SlotId) (sl : Slot) (done : Bool) :
    (s.slotAdvance i sl done).notices.lostFaults = s.notices.lostFaults := by
  unfold State.slotAdvance; split <;> simp

@[simp] theorem State.slotAdvance_notices_resend (s : State) (i : SlotId) (sl : Slot) (done : Bool) :
    (s.slotAdvance i sl done).notices.resend = s.notices.resend := by
  unfold State.slotAdvance; split <;> simp

/-! ### slotRetry -/

@[simp] theorem State.slotRetry_held (s : State) (i : SlotId) (sl : Slot) (mark : Bool) :
    (s.slotRetry i sl mark).held = s.held := by
  unfold State.slotRetry; simp only; split <;> simp

@[simp] theorem State.slotRetry_pwq (s : State) (i : SlotId) (sl : Slot) (mark : Bool) :
    (s.slotRetry i sl mark).pwq = s.pwq := by
  unfold State.slotRetry; simp only; split <;> simp

@[simp] theorem State.slotRetry_sched (s : State) (i : SlotId) (sl : Slot) (mark : Bool) :
    (s.slotRetry i sl mark).sched = s.sched := by
  unfold State.slotRetry; simp only; split <;> simp

@[simp] theorem State.slotRetry_engine (s : State) (i : SlotId) (sl : Slot) (mark : Bool) :
    (s.slotRetry i sl mark).engine = s.engine := by
  unfold State.slotRetry; simp only; split <;> simp

@[simp] theorem State.slotRetry_seg (s : State) (i : SlotId) (sl : Slot) (mark : Bool) :
    (s.slotRetry i sl mark).seg = s.seg := by
  unfold State.slotRetry; simp only; split <;> simp

@[simp] theorem State.slotRetry_segRst (s : State) (i : SlotId) (sl : Slot) (mark : Bool) :
    (s.slotRetry i sl mark).segRst = s.segRst := by
  unfold State.slotRetry; simp only; split <;> simp

@[simp] theorem State.slotRetry_segAttn (s : State) (i : SlotId) (sl : Slot) (mark : Bool) :
    (s.slotRetry i sl mark).segAttn = s.segAttn := by
  unfold State.slotRetry; simp only; split <;> simp

@[simp] theorem State.slotRetry_nodes (s : State) (i : SlotId) (sl : Slot) (mark : Bool) :
    (s.slotRetry i sl mark).nodes = s.nodes := by
  unfold State.slotRetry; simp only; split <;> simp

@[simp] theorem State.slotRetry_attn (s : State) (i : SlotId) (sl : Slot) (mark : Bool) :
    (s.slotRetry i sl mark).attn = s.attn := by
  unfold State.slotRetry; simp only; split <;> simp

@[simp] theorem State.slotRetry_link (s : State) (i : SlotId) (sl : Slot) (mark : Bool) :
    (s.slotRetry i sl mark).link = s.link := by
  unfold State.slotRetry; simp only; split <;> simp

@[simp] theorem State.slotRetry_params (s : State) (i : SlotId) (sl : Slot) (mark : Bool) :
    (s.slotRetry i sl mark).params = s.params := by
  unfold State.slotRetry; simp only; split <;> simp

@[simp] theorem State.slotRetry_pending (s : State) (i : SlotId) (sl : Slot) (mark : Bool) :
    (s.slotRetry i sl mark).pending = s.pending := by
  unfold State.slotRetry; simp only; split <;> simp

@[simp] theorem State.slotRetry_notices_queue (s : State) (i : SlotId) (sl : Slot) (mark : Bool) :
    (s.slotRetry i sl mark).notices.queue = s.notices.queue := by
  unfold State.slotRetry; simp only; split <;> simp

@[simp] theorem State.slotRetry_notices_next (s : State) (i : SlotId) (sl : Slot) (mark : Bool) :
    (s.slotRetry i sl mark).notices.next = s.notices.next := by
  unfold State.slotRetry; simp only; split <;> simp

@[simp] theorem State.slotRetry_notices_lostFaults (s : State) (i : SlotId) (sl : Slot) (mark : Bool) :
    (s.slotRetry i sl mark).notices.lostFaults = s.notices.lostFaults := by
  unfold State.slotRetry; simp only; split <;> simp

@[simp] theorem State.slotRetry_notices_resend (s : State) (i : SlotId) (sl : Slot) (mark : Bool) :
    (s.slotRetry i sl mark).notices.resend = s.notices.resend := by
  unfold State.slotRetry; simp only; split <;> simp

/-! ### slotSilence -/

@[simp] theorem State.slotSilence_held (s : State) (i : SlotId) (sl : Slot) : (s.slotSilence i sl).held = s.held := by
  unfold State.slotSilence; split <;> simp

@[simp] theorem State.slotSilence_pwq (s : State) (i : SlotId) (sl : Slot) : (s.slotSilence i sl).pwq = s.pwq := by
  unfold State.slotSilence; split <;> simp

@[simp] theorem State.slotSilence_sched (s : State) (i : SlotId) (sl : Slot) :
    (s.slotSilence i sl).sched = s.sched := by
  unfold State.slotSilence; split <;> simp

@[simp] theorem State.slotSilence_engine (s : State) (i : SlotId) (sl : Slot) :
    (s.slotSilence i sl).engine = s.engine := by
  unfold State.slotSilence; split <;> simp

@[simp] theorem State.slotSilence_seg (s : State) (i : SlotId) (sl : Slot) : (s.slotSilence i sl).seg = s.seg := by
  unfold State.slotSilence; split <;> simp

@[simp] theorem State.slotSilence_segRst (s : State) (i : SlotId) (sl : Slot) :
    (s.slotSilence i sl).segRst = s.segRst := by
  unfold State.slotSilence; split <;> simp

@[simp] theorem State.slotSilence_segAttn (s : State) (i : SlotId) (sl : Slot) :
    (s.slotSilence i sl).segAttn = s.segAttn := by
  unfold State.slotSilence; split <;> simp

@[simp] theorem State.slotSilence_nodes (s : State) (i : SlotId) (sl : Slot) :
    (s.slotSilence i sl).nodes = s.nodes := by
  unfold State.slotSilence; split <;> simp

@[simp] theorem State.slotSilence_attn (s : State) (i : SlotId) (sl : Slot) : (s.slotSilence i sl).attn = s.attn := by
  unfold State.slotSilence; split <;> simp

@[simp] theorem State.slotSilence_link (s : State) (i : SlotId) (sl : Slot) : (s.slotSilence i sl).link = s.link := by
  unfold State.slotSilence; split <;> simp

@[simp] theorem State.slotSilence_params (s : State) (i : SlotId) (sl : Slot) :
    (s.slotSilence i sl).params = s.params := by
  unfold State.slotSilence; split <;> simp

@[simp] theorem State.slotSilence_pending (s : State) (i : SlotId) (sl : Slot) :
    (s.slotSilence i sl).pending = s.pending := by
  unfold State.slotSilence; split <;> simp

@[simp] theorem State.slotSilence_notices_queue (s : State) (i : SlotId) (sl : Slot) :
    (s.slotSilence i sl).notices.queue = s.notices.queue := by
  unfold State.slotSilence; split <;> simp

@[simp] theorem State.slotSilence_notices_next (s : State) (i : SlotId) (sl : Slot) :
    (s.slotSilence i sl).notices.next = s.notices.next := by
  unfold State.slotSilence; split <;> simp

@[simp] theorem State.slotSilence_notices_lostFaults (s : State) (i : SlotId) (sl : Slot) :
    (s.slotSilence i sl).notices.lostFaults = s.notices.lostFaults := by
  unfold State.slotSilence; split <;> simp

@[simp] theorem State.slotSilence_notices_resend (s : State) (i : SlotId) (sl : Slot) :
    (s.slotSilence i sl).notices.resend = s.notices.resend := by
  unfold State.slotSilence; split <;> simp

/-! ### activeOutcome -/

@[simp] theorem State.activeOutcome_held (s : State) (i : SlotId) (sl : Slot) (cmd : Command) (o : SegOutcome) :
    (s.activeOutcome i sl cmd o).held = s.held := by
  unfold State.activeOutcome; repeat' split
  all_goals simp

@[simp] theorem State.activeOutcome_pwq (s : State) (i : SlotId) (sl : Slot) (cmd : Command) (o : SegOutcome) :
    (s.activeOutcome i sl cmd o).pwq = s.pwq := by
  unfold State.activeOutcome; repeat' split
  all_goals simp

@[simp] theorem State.activeOutcome_sched (s : State) (i : SlotId) (sl : Slot) (cmd : Command) (o : SegOutcome) :
    (s.activeOutcome i sl cmd o).sched = s.sched := by
  unfold State.activeOutcome; repeat' split
  all_goals simp

@[simp] theorem State.activeOutcome_engine (s : State) (i : SlotId) (sl : Slot) (cmd : Command) (o : SegOutcome) :
    (s.activeOutcome i sl cmd o).engine = s.engine := by
  unfold State.activeOutcome; repeat' split
  all_goals simp

@[simp] theorem State.activeOutcome_seg (s : State) (i : SlotId) (sl : Slot) (cmd : Command) (o : SegOutcome) :
    (s.activeOutcome i sl cmd o).seg = s.seg := by
  unfold State.activeOutcome; repeat' split
  all_goals simp

@[simp] theorem State.activeOutcome_segRst (s : State) (i : SlotId) (sl : Slot) (cmd : Command) (o : SegOutcome) :
    (s.activeOutcome i sl cmd o).segRst = s.segRst := by
  unfold State.activeOutcome; repeat' split
  all_goals simp

@[simp] theorem State.activeOutcome_segAttn (s : State) (i : SlotId) (sl : Slot) (cmd : Command) (o : SegOutcome) :
    (s.activeOutcome i sl cmd o).segAttn = s.segAttn := by
  unfold State.activeOutcome; repeat' split
  all_goals simp

@[simp] theorem State.activeOutcome_nodes (s : State) (i : SlotId) (sl : Slot) (cmd : Command) (o : SegOutcome) :
    (s.activeOutcome i sl cmd o).nodes = s.nodes := by
  unfold State.activeOutcome; repeat' split
  all_goals simp

@[simp] theorem State.activeOutcome_attn (s : State) (i : SlotId) (sl : Slot) (cmd : Command) (o : SegOutcome) :
    (s.activeOutcome i sl cmd o).attn = s.attn := by
  unfold State.activeOutcome; repeat' split
  all_goals simp

@[simp] theorem State.activeOutcome_link (s : State) (i : SlotId) (sl : Slot) (cmd : Command) (o : SegOutcome) :
    (s.activeOutcome i sl cmd o).link = s.link := by
  unfold State.activeOutcome; repeat' split
  all_goals simp

@[simp] theorem State.activeOutcome_params (s : State) (i : SlotId) (sl : Slot) (cmd : Command) (o : SegOutcome) :
    (s.activeOutcome i sl cmd o).params = s.params := by
  unfold State.activeOutcome; repeat' split
  all_goals simp

@[simp] theorem State.activeOutcome_pending (s : State) (i : SlotId) (sl : Slot) (cmd : Command) (o : SegOutcome) :
    (s.activeOutcome i sl cmd o).pending = s.pending := by
  unfold State.activeOutcome; repeat' split
  all_goals simp

@[simp] theorem State.activeOutcome_notices_queue (s : State) (i : SlotId) (sl : Slot) (cmd : Command)
    (o : SegOutcome) : (s.activeOutcome i sl cmd o).notices.queue = s.notices.queue := by
  unfold State.activeOutcome; repeat' split
  all_goals simp

@[simp] theorem State.activeOutcome_notices_next (s : State) (i : SlotId) (sl : Slot) (cmd : Command) (o : SegOutcome) :
    (s.activeOutcome i sl cmd o).notices.next = s.notices.next := by
  unfold State.activeOutcome; repeat' split
  all_goals simp

@[simp] theorem State.activeOutcome_notices_lostFaults (s : State) (i : SlotId) (sl : Slot) (cmd : Command)
    (o : SegOutcome) : (s.activeOutcome i sl cmd o).notices.lostFaults = s.notices.lostFaults := by
  unfold State.activeOutcome; repeat' split
  all_goals simp

@[simp] theorem State.activeOutcome_notices_resend (s : State) (i : SlotId) (sl : Slot) (cmd : Command)
    (o : SegOutcome) : (s.activeOutcome i sl cmd o).notices.resend = s.notices.resend := by
  unfold State.activeOutcome; repeat' split
  all_goals simp

/-! ### slotOutcome -/

@[simp] theorem State.slotOutcome_held (s : State) (i : SlotId) (cmd : Command) (o : SegOutcome) :
    (s.slotOutcome i cmd o).held = s.held := by
  unfold State.slotOutcome; repeat' split
  all_goals simp

@[simp] theorem State.slotOutcome_pwq (s : State) (i : SlotId) (cmd : Command) (o : SegOutcome) :
    (s.slotOutcome i cmd o).pwq = s.pwq := by
  unfold State.slotOutcome; repeat' split
  all_goals simp

@[simp] theorem State.slotOutcome_sched (s : State) (i : SlotId) (cmd : Command) (o : SegOutcome) :
    (s.slotOutcome i cmd o).sched = s.sched := by
  unfold State.slotOutcome; repeat' split
  all_goals simp

@[simp] theorem State.slotOutcome_engine (s : State) (i : SlotId) (cmd : Command) (o : SegOutcome) :
    (s.slotOutcome i cmd o).engine = s.engine := by
  unfold State.slotOutcome; repeat' split
  all_goals simp

@[simp] theorem State.slotOutcome_seg (s : State) (i : SlotId) (cmd : Command) (o : SegOutcome) :
    (s.slotOutcome i cmd o).seg = s.seg := by
  unfold State.slotOutcome; repeat' split
  all_goals simp

@[simp] theorem State.slotOutcome_segRst (s : State) (i : SlotId) (cmd : Command) (o : SegOutcome) :
    (s.slotOutcome i cmd o).segRst = s.segRst := by
  unfold State.slotOutcome; repeat' split
  all_goals simp

@[simp] theorem State.slotOutcome_segAttn (s : State) (i : SlotId) (cmd : Command) (o : SegOutcome) :
    (s.slotOutcome i cmd o).segAttn = s.segAttn := by
  unfold State.slotOutcome; repeat' split
  all_goals simp

@[simp] theorem State.slotOutcome_nodes (s : State) (i : SlotId) (cmd : Command) (o : SegOutcome) :
    (s.slotOutcome i cmd o).nodes = s.nodes := by
  unfold State.slotOutcome; repeat' split
  all_goals simp

@[simp] theorem State.slotOutcome_attn (s : State) (i : SlotId) (cmd : Command) (o : SegOutcome) :
    (s.slotOutcome i cmd o).attn = s.attn := by
  unfold State.slotOutcome; repeat' split
  all_goals simp

@[simp] theorem State.slotOutcome_link (s : State) (i : SlotId) (cmd : Command) (o : SegOutcome) :
    (s.slotOutcome i cmd o).link = s.link := by
  unfold State.slotOutcome; repeat' split
  all_goals simp

@[simp] theorem State.slotOutcome_params (s : State) (i : SlotId) (cmd : Command) (o : SegOutcome) :
    (s.slotOutcome i cmd o).params = s.params := by
  unfold State.slotOutcome; repeat' split
  all_goals simp

@[simp] theorem State.slotOutcome_pending (s : State) (i : SlotId) (cmd : Command) (o : SegOutcome) :
    (s.slotOutcome i cmd o).pending = s.pending := by
  unfold State.slotOutcome; repeat' split
  all_goals simp

@[simp] theorem State.slotOutcome_notices_queue (s : State) (i : SlotId) (cmd : Command) (o : SegOutcome) :
    (s.slotOutcome i cmd o).notices.queue = s.notices.queue := by
  unfold State.slotOutcome; repeat' split
  all_goals simp

@[simp] theorem State.slotOutcome_notices_next (s : State) (i : SlotId) (cmd : Command) (o : SegOutcome) :
    (s.slotOutcome i cmd o).notices.next = s.notices.next := by
  unfold State.slotOutcome; repeat' split
  all_goals simp

@[simp] theorem State.slotOutcome_notices_lostFaults (s : State) (i : SlotId) (cmd : Command) (o : SegOutcome) :
    (s.slotOutcome i cmd o).notices.lostFaults = s.notices.lostFaults := by
  unfold State.slotOutcome; repeat' split
  all_goals simp

@[simp] theorem State.slotOutcome_notices_resend (s : State) (i : SlotId) (cmd : Command) (o : SegOutcome) :
    (s.slotOutcome i cmd o).notices.resend = s.notices.resend := by
  unfold State.slotOutcome; repeat' split
  all_goals simp

/-! ### fetchOutcome -/

@[simp] theorem State.fetchOutcome_held (s : State) (n : NodeId) (o : SegOutcome) :
    (s.fetchOutcome n o).held = s.held := by
  unfold State.fetchOutcome; repeat' split
  all_goals simp

@[simp] theorem State.fetchOutcome_pwq (s : State) (n : NodeId) (o : SegOutcome) :
    (s.fetchOutcome n o).pwq = s.pwq := by
  unfold State.fetchOutcome; repeat' split
  all_goals simp

@[simp] theorem State.fetchOutcome_drt (s : State) (n : NodeId) (o : SegOutcome) :
    (s.fetchOutcome n o).drt = s.drt := by
  unfold State.fetchOutcome; repeat' split
  all_goals simp

@[simp] theorem State.fetchOutcome_sched (s : State) (n : NodeId) (o : SegOutcome) :
    (s.fetchOutcome n o).sched = s.sched := by
  unfold State.fetchOutcome; repeat' split
  all_goals simp

@[simp] theorem State.fetchOutcome_engine (s : State) (n : NodeId) (o : SegOutcome) :
    (s.fetchOutcome n o).engine = s.engine := by
  unfold State.fetchOutcome; repeat' split
  all_goals simp

@[simp] theorem State.fetchOutcome_seg (s : State) (n : NodeId) (o : SegOutcome) :
    (s.fetchOutcome n o).seg = s.seg := by
  unfold State.fetchOutcome; repeat' split
  all_goals simp

@[simp] theorem State.fetchOutcome_segRst (s : State) (n : NodeId) (o : SegOutcome) :
    (s.fetchOutcome n o).segRst = s.segRst := by
  unfold State.fetchOutcome; repeat' split
  all_goals simp

@[simp] theorem State.fetchOutcome_segAttn (s : State) (n : NodeId) (o : SegOutcome) :
    (s.fetchOutcome n o).segAttn = s.segAttn := by
  unfold State.fetchOutcome; repeat' split
  all_goals simp

@[simp] theorem State.fetchOutcome_link (s : State) (n : NodeId) (o : SegOutcome) :
    (s.fetchOutcome n o).link = s.link := by
  unfold State.fetchOutcome; repeat' split
  all_goals simp

@[simp] theorem State.fetchOutcome_params (s : State) (n : NodeId) (o : SegOutcome) :
    (s.fetchOutcome n o).params = s.params := by
  unfold State.fetchOutcome; repeat' split
  all_goals simp

@[simp] theorem State.fetchOutcome_counters (s : State) (n : NodeId) (o : SegOutcome) :
    (s.fetchOutcome n o).counters = s.counters := by
  unfold State.fetchOutcome; repeat' split
  all_goals simp

@[simp] theorem State.fetchOutcome_pending (s : State) (n : NodeId) (o : SegOutcome) :
    (s.fetchOutcome n o).pending = s.pending := by
  unfold State.fetchOutcome; repeat' split
  all_goals simp

@[simp] theorem State.fetchOutcome_notices_lostFaults (s : State) (n : NodeId) (o : SegOutcome) :
    (s.fetchOutcome n o).notices.lostFaults = s.notices.lostFaults := by
  unfold State.fetchOutcome; repeat' split
  all_goals simp

@[simp] theorem State.fetchOutcome_notices_resend (s : State) (n : NodeId) (o : SegOutcome) :
    (s.fetchOutcome n o).notices.resend = s.notices.resend := by
  unfold State.fetchOutcome; repeat' split
  all_goals simp

@[simp] theorem State.fetchOutcome_notices_ready (s : State) (n : NodeId) (o : SegOutcome) :
    (s.fetchOutcome n o).notices.ready = s.notices.ready := by
  unfold State.fetchOutcome; repeat' split
  all_goals simp

/-! ### granteeOutcome -/

@[simp] theorem State.granteeOutcome_held (s : State) (t : Transaction) (o : SegOutcome) :
    (s.granteeOutcome t o).held = s.held := by
  unfold State.granteeOutcome; repeat' split
  all_goals simp

@[simp] theorem State.granteeOutcome_sched (s : State) (t : Transaction) (o : SegOutcome) :
    (s.granteeOutcome t o).sched = s.sched := by
  unfold State.granteeOutcome; repeat' split
  all_goals simp

@[simp] theorem State.granteeOutcome_engine (s : State) (t : Transaction) (o : SegOutcome) :
    (s.granteeOutcome t o).engine = s.engine := by
  unfold State.granteeOutcome; repeat' split
  all_goals simp

@[simp] theorem State.granteeOutcome_seg (s : State) (t : Transaction) (o : SegOutcome) :
    (s.granteeOutcome t o).seg = s.seg := by
  unfold State.granteeOutcome; repeat' split
  all_goals simp

@[simp] theorem State.granteeOutcome_segRst (s : State) (t : Transaction) (o : SegOutcome) :
    (s.granteeOutcome t o).segRst = s.segRst := by
  unfold State.granteeOutcome; repeat' split
  all_goals simp

@[simp] theorem State.granteeOutcome_segAttn (s : State) (t : Transaction) (o : SegOutcome) :
    (s.granteeOutcome t o).segAttn = s.segAttn := by
  unfold State.granteeOutcome; repeat' split
  all_goals simp

@[simp] theorem State.granteeOutcome_link (s : State) (t : Transaction) (o : SegOutcome) :
    (s.granteeOutcome t o).link = s.link := by
  unfold State.granteeOutcome; repeat' split
  all_goals simp

@[simp] theorem State.granteeOutcome_params (s : State) (t : Transaction) (o : SegOutcome) :
    (s.granteeOutcome t o).params = s.params := by
  unfold State.granteeOutcome; repeat' split
  all_goals simp

@[simp] theorem State.granteeOutcome_pending (s : State) (t : Transaction) (o : SegOutcome) :
    (s.granteeOutcome t o).pending = s.pending := by
  unfold State.granteeOutcome; repeat' split
  all_goals simp

@[simp] theorem State.granteeOutcome_pwq_nextNumber (s : State) (t : Transaction) (o : SegOutcome) :
    (s.granteeOutcome t o).pwq.nextNumber = s.pwq.nextNumber := by
  unfold State.granteeOutcome; repeat' split
  all_goals simp

@[simp] theorem State.granteeOutcome_notices_resend (s : State) (t : Transaction) (o : SegOutcome) :
    (s.granteeOutcome t o).notices.resend = s.notices.resend := by
  unfold State.granteeOutcome; repeat' split
  all_goals simp

/-! ### deliver -/

@[simp] theorem State.deliver_held (s : State) (t : Transaction) (o : SegOutcome) : (s.deliver t o).held = s.held := by
  simp [State.deliver]

@[simp] theorem State.deliver_seg (s : State) (t : Transaction) (o : SegOutcome) : (s.deliver t o).seg = s.seg := by
  simp [State.deliver]

@[simp] theorem State.deliver_segRst (s : State) (t : Transaction) (o : SegOutcome) :
    (s.deliver t o).segRst = s.segRst := by
  simp [State.deliver]

@[simp] theorem State.deliver_segAttn (s : State) (t : Transaction) (o : SegOutcome) :
    (s.deliver t o).segAttn = s.segAttn := by
  simp [State.deliver]

@[simp] theorem State.deliver_link (s : State) (t : Transaction) (o : SegOutcome) : (s.deliver t o).link = s.link := by
  simp [State.deliver]

@[simp] theorem State.deliver_params (s : State) (t : Transaction) (o : SegOutcome) :
    (s.deliver t o).params = s.params := by
  simp [State.deliver]

@[simp] theorem State.deliver_pending (s : State) (t : Transaction) (o : SegOutcome) :
    (s.deliver t o).pending = s.pending := by
  simp [State.deliver]

@[simp] theorem State.deliver_pwq_nextNumber (s : State) (t : Transaction) (o : SegOutcome) :
    (s.deliver t o).pwq.nextNumber = s.pwq.nextNumber := by
  simp [State.deliver]

@[simp] theorem State.deliver_notices_resend (s : State) (t : Transaction) (o : SegOutcome) :
    (s.deliver t o).notices.resend = s.notices.resend := by
  simp [State.deliver]

@[simp] theorem State.deliver_engine_turnaround (s : State) (t : Transaction) (o : SegOutcome) :
    (s.deliver t o).engine.turnaround = some Config.turnaround := by
  simp [State.deliver]

/-! ### sendReadyHint -/

@[simp] theorem State.sendReadyHint_held (s : State) : s.sendReadyHint.held = s.held := by
  unfold State.sendReadyHint; split; · rfl
  · split <;> simp

@[simp] theorem State.sendReadyHint_pwq (s : State) : s.sendReadyHint.pwq = s.pwq := by
  unfold State.sendReadyHint; split; · rfl
  · split <;> simp

@[simp] theorem State.sendReadyHint_drt (s : State) : s.sendReadyHint.drt = s.drt := by
  unfold State.sendReadyHint; split; · rfl
  · split <;> simp

@[simp] theorem State.sendReadyHint_sched (s : State) : s.sendReadyHint.sched = s.sched := by
  unfold State.sendReadyHint; split; · rfl
  · split <;> simp

@[simp] theorem State.sendReadyHint_engine (s : State) : s.sendReadyHint.engine = s.engine := by
  unfold State.sendReadyHint; split; · rfl
  · split <;> simp

@[simp] theorem State.sendReadyHint_seg (s : State) : s.sendReadyHint.seg = s.seg := by
  unfold State.sendReadyHint; split; · rfl
  · split <;> simp

@[simp] theorem State.sendReadyHint_segRst (s : State) : s.sendReadyHint.segRst = s.segRst := by
  unfold State.sendReadyHint; split; · rfl
  · split <;> simp

@[simp] theorem State.sendReadyHint_segAttn (s : State) : s.sendReadyHint.segAttn = s.segAttn := by
  unfold State.sendReadyHint; split; · rfl
  · split <;> simp

@[simp] theorem State.sendReadyHint_nodes (s : State) : s.sendReadyHint.nodes = s.nodes := by
  unfold State.sendReadyHint; split; · rfl
  · split <;> simp

@[simp] theorem State.sendReadyHint_attn (s : State) : s.sendReadyHint.attn = s.attn := by
  unfold State.sendReadyHint; split; · rfl
  · split <;> simp

@[simp] theorem State.sendReadyHint_params (s : State) : s.sendReadyHint.params = s.params := by
  unfold State.sendReadyHint; split; · rfl
  · split <;> simp

@[simp] theorem State.sendReadyHint_counters (s : State) : s.sendReadyHint.counters = s.counters := by
  unfold State.sendReadyHint; split; · rfl
  · split <;> simp

@[simp] theorem State.sendReadyHint_pending (s : State) : s.sendReadyHint.pending = s.pending := by
  unfold State.sendReadyHint; split; · rfl
  · split <;> simp

@[simp] theorem State.sendReadyHint_notices_next (s : State) : s.sendReadyHint.notices.next = s.notices.next := by
  unfold State.sendReadyHint; split; · rfl
  · split <;> simp

@[simp] theorem State.sendReadyHint_notices_lostFaults (s : State) : s.sendReadyHint.notices.lostFaults =
    s.notices.lostFaults := by
  unfold State.sendReadyHint; split; · rfl
  · split <;> simp

@[simp] theorem State.sendReadyHint_link_framer (s : State) : s.sendReadyHint.link.framer = s.link.framer := by
  unfold State.sendReadyHint; split; · rfl
  · split <;> simp

@[simp] theorem State.sendReadyHint_link_newestPlaced (s : State) : s.sendReadyHint.link.newestPlaced =
    s.link.newestPlaced := by
  unfold State.sendReadyHint; split; · rfl
  · split <;> simp

@[simp] theorem State.sendReadyHint_link_store (s : State) : s.sendReadyHint.link.store = s.link.store := by
  unfold State.sendReadyHint; split; · rfl
  · split <;> simp

@[simp] theorem State.sendReadyHint_link_helloOffered (s : State) : s.sendReadyHint.link.helloOffered =
    s.link.helloOffered := by
  unfold State.sendReadyHint; split; · rfl
  · split <;> simp

@[simp] theorem State.sendReadyHint_link_resetCause (s : State) : s.sendReadyHint.link.resetCause = s.link.resetCause
    := by
  unfold State.sendReadyHint; split; · rfl
  · split <;> simp

@[simp] theorem State.sendReadyHint_link_lspd (s : State) : s.sendReadyHint.link.lspd = s.link.lspd := by
  unfold State.sendReadyHint; split; · rfl
  · split <;> simp

@[simp] theorem State.sendReadyHint_link_stopped (s : State) : s.sendReadyHint.link.stopped = s.link.stopped := by
  unfold State.sendReadyHint; split; · rfl
  · split <;> simp

@[simp] theorem State.sendReadyHint_notices_queue (s : State) : s.sendReadyHint.notices.queue = s.notices.queue := by
  unfold State.sendReadyHint; split; · rfl
  · split <;> simp

@[simp] theorem State.sendReadyHint_notices_resend (s : State) : s.sendReadyHint.notices.resend = s.notices.resend := by
  unfold State.sendReadyHint; split; · rfl
  · split <;> simp

/-! ### sendWaiting -/

@[simp] theorem State.sendWaiting_held (s : State) : s.sendWaiting.held = s.held := by
  unfold State.sendWaiting; split; · simp
  · split <;> simp

@[simp] theorem State.sendWaiting_pwq (s : State) : s.sendWaiting.pwq = s.pwq := by
  unfold State.sendWaiting; split; · simp
  · split <;> simp

@[simp] theorem State.sendWaiting_drt (s : State) : s.sendWaiting.drt = s.drt := by
  unfold State.sendWaiting; split; · simp
  · split <;> simp

@[simp] theorem State.sendWaiting_sched (s : State) : s.sendWaiting.sched = s.sched := by
  unfold State.sendWaiting; split; · simp
  · split <;> simp

@[simp] theorem State.sendWaiting_engine (s : State) : s.sendWaiting.engine = s.engine := by
  unfold State.sendWaiting; split; · simp
  · split <;> simp

@[simp] theorem State.sendWaiting_seg (s : State) : s.sendWaiting.seg = s.seg := by
  unfold State.sendWaiting; split; · simp
  · split <;> simp

@[simp] theorem State.sendWaiting_segRst (s : State) : s.sendWaiting.segRst = s.segRst := by
  unfold State.sendWaiting; split; · simp
  · split <;> simp

@[simp] theorem State.sendWaiting_segAttn (s : State) : s.sendWaiting.segAttn = s.segAttn := by
  unfold State.sendWaiting; split; · simp
  · split <;> simp

@[simp] theorem State.sendWaiting_nodes (s : State) : s.sendWaiting.nodes = s.nodes := by
  unfold State.sendWaiting; split; · simp
  · split <;> simp

@[simp] theorem State.sendWaiting_attn (s : State) : s.sendWaiting.attn = s.attn := by
  unfold State.sendWaiting; split; · simp
  · split <;> simp

@[simp] theorem State.sendWaiting_params (s : State) : s.sendWaiting.params = s.params := by
  unfold State.sendWaiting; split; · simp
  · split <;> simp

@[simp] theorem State.sendWaiting_counters (s : State) : s.sendWaiting.counters = s.counters := by
  unfold State.sendWaiting; split; · simp
  · split <;> simp

@[simp] theorem State.sendWaiting_pending (s : State) : s.sendWaiting.pending = s.pending := by
  unfold State.sendWaiting; split; · simp
  · split <;> simp

@[simp] theorem State.sendWaiting_notices_next (s : State) : s.sendWaiting.notices.next = s.notices.next := by
  unfold State.sendWaiting; split; · simp
  · split <;> simp

@[simp] theorem State.sendWaiting_notices_lostFaults (s : State) : s.sendWaiting.notices.lostFaults =
    s.notices.lostFaults := by
  unfold State.sendWaiting; split; · simp
  · split <;> simp

@[simp] theorem State.sendWaiting_link_framer (s : State) : s.sendWaiting.link.framer = s.link.framer := by
  unfold State.sendWaiting; split; · simp
  · split <;> simp

@[simp] theorem State.sendWaiting_link_newestPlaced (s : State) : s.sendWaiting.link.newestPlaced =
    s.link.newestPlaced := by
  unfold State.sendWaiting; split; · simp
  · split <;> simp

@[simp] theorem State.sendWaiting_link_store (s : State) : s.sendWaiting.link.store = s.link.store := by
  unfold State.sendWaiting; split; · simp
  · split <;> simp

@[simp] theorem State.sendWaiting_link_helloOffered (s : State) : s.sendWaiting.link.helloOffered =
    s.link.helloOffered := by
  unfold State.sendWaiting; split; · simp
  · split <;> simp

@[simp] theorem State.sendWaiting_link_resetCause (s : State) : s.sendWaiting.link.resetCause = s.link.resetCause := by
  unfold State.sendWaiting; split; · simp
  · split <;> simp

@[simp] theorem State.sendWaiting_link_lspd (s : State) : s.sendWaiting.link.lspd = s.link.lspd := by
  unfold State.sendWaiting; split; · simp
  · split <;> simp

@[simp] theorem State.sendWaiting_link_stopped (s : State) : s.sendWaiting.link.stopped = s.link.stopped := by
  unfold State.sendWaiting; split; · simp
  · split <;> simp

/-! ### arbitrate -/

@[simp] theorem State.arbitrate_held (s : State) : s.arbitrate.held = s.held := by
  unfold State.arbitrate; repeat' split
  all_goals simp

@[simp] theorem State.arbitrate_pwq (s : State) : s.arbitrate.pwq = s.pwq := by
  unfold State.arbitrate; repeat' split
  all_goals simp

@[simp] theorem State.arbitrate_drt (s : State) : s.arbitrate.drt = s.drt := by
  unfold State.arbitrate; repeat' split
  all_goals simp

@[simp] theorem State.arbitrate_sched (s : State) : s.arbitrate.sched = s.sched := by
  unfold State.arbitrate; repeat' split
  all_goals simp

@[simp] theorem State.arbitrate_engine (s : State) : s.arbitrate.engine = s.engine := by
  unfold State.arbitrate; repeat' split
  all_goals simp

@[simp] theorem State.arbitrate_seg (s : State) : s.arbitrate.seg = s.seg := by
  unfold State.arbitrate; repeat' split
  all_goals simp

@[simp] theorem State.arbitrate_segRst (s : State) : s.arbitrate.segRst = s.segRst := by
  unfold State.arbitrate; repeat' split
  all_goals simp

@[simp] theorem State.arbitrate_segAttn (s : State) : s.arbitrate.segAttn = s.segAttn := by
  unfold State.arbitrate; repeat' split
  all_goals simp

@[simp] theorem State.arbitrate_nodes (s : State) : s.arbitrate.nodes = s.nodes := by
  unfold State.arbitrate; repeat' split
  all_goals simp

@[simp] theorem State.arbitrate_attn (s : State) : s.arbitrate.attn = s.attn := by
  unfold State.arbitrate; repeat' split
  all_goals simp

@[simp] theorem State.arbitrate_params (s : State) : s.arbitrate.params = s.params := by
  unfold State.arbitrate; repeat' split
  all_goals simp

@[simp] theorem State.arbitrate_counters (s : State) : s.arbitrate.counters = s.counters := by
  unfold State.arbitrate; repeat' split
  all_goals simp

@[simp] theorem State.arbitrate_pending (s : State) : s.arbitrate.pending = s.pending := by
  unfold State.arbitrate; repeat' split
  all_goals simp

@[simp] theorem State.arbitrate_notices_next (s : State) : s.arbitrate.notices.next = s.notices.next := by
  unfold State.arbitrate; repeat' split
  all_goals simp

@[simp] theorem State.arbitrate_notices_lostFaults (s : State) : s.arbitrate.notices.lostFaults = s.notices.lostFaults
    := by
  unfold State.arbitrate; repeat' split
  all_goals simp

@[simp] theorem State.arbitrate_link_framer (s : State) : s.arbitrate.link.framer = s.link.framer := by
  unfold State.arbitrate; repeat' split
  all_goals simp

@[simp] theorem State.arbitrate_link_newestPlaced (s : State) : s.arbitrate.link.newestPlaced = s.link.newestPlaced :=
    by
  unfold State.arbitrate; repeat' split
  all_goals simp

@[simp] theorem State.arbitrate_link_store (s : State) : s.arbitrate.link.store = s.link.store := by
  unfold State.arbitrate; repeat' split
  all_goals simp

@[simp] theorem State.arbitrate_link_helloOffered (s : State) : s.arbitrate.link.helloOffered = s.link.helloOffered :=
    by
  unfold State.arbitrate; repeat' split
  all_goals simp

@[simp] theorem State.arbitrate_link_resetCause (s : State) : s.arbitrate.link.resetCause = s.link.resetCause := by
  unfold State.arbitrate; repeat' split
  all_goals simp

@[simp] theorem State.arbitrate_link_lspd (s : State) : s.arbitrate.link.lspd = s.link.lspd := by
  unfold State.arbitrate; repeat' split
  all_goals simp

@[simp] theorem State.arbitrate_link_stopped (s : State) : s.arbitrate.link.stopped = s.link.stopped := by
  unfold State.arbitrate; repeat' split
  all_goals simp

/-! ### goodFrame -/

@[simp] theorem State.goodFrame_held (s : State) (f : Frame) : (s.goodFrame f).held = s.held := by
  unfold State.goodFrame; split <;> simp

@[simp] theorem State.goodFrame_pwq (s : State) (f : Frame) : (s.goodFrame f).pwq = s.pwq := by
  unfold State.goodFrame; split <;> simp

@[simp] theorem State.goodFrame_drt (s : State) (f : Frame) : (s.goodFrame f).drt = s.drt := by
  unfold State.goodFrame; split <;> simp

@[simp] theorem State.goodFrame_sched (s : State) (f : Frame) : (s.goodFrame f).sched = s.sched := by
  unfold State.goodFrame; split <;> simp

@[simp] theorem State.goodFrame_engine (s : State) (f : Frame) : (s.goodFrame f).engine = s.engine := by
  unfold State.goodFrame; split <;> simp

@[simp] theorem State.goodFrame_seg (s : State) (f : Frame) : (s.goodFrame f).seg = s.seg := by
  unfold State.goodFrame; split <;> simp

@[simp] theorem State.goodFrame_segRst (s : State) (f : Frame) : (s.goodFrame f).segRst = s.segRst := by
  unfold State.goodFrame; split <;> simp

@[simp] theorem State.goodFrame_segAttn (s : State) (f : Frame) : (s.goodFrame f).segAttn = s.segAttn := by
  unfold State.goodFrame; split <;> simp

@[simp] theorem State.goodFrame_nodes (s : State) (f : Frame) : (s.goodFrame f).nodes = s.nodes := by
  unfold State.goodFrame; split <;> simp

@[simp] theorem State.goodFrame_attn (s : State) (f : Frame) : (s.goodFrame f).attn = s.attn := by
  unfold State.goodFrame; split <;> simp

@[simp] theorem State.goodFrame_params (s : State) (f : Frame) : (s.goodFrame f).params = s.params := by
  unfold State.goodFrame; split <;> simp

@[simp] theorem State.goodFrame_pending (s : State) (f : Frame) : (s.goodFrame f).pending = s.pending := by
  unfold State.goodFrame; split <;> simp

@[simp] theorem State.goodFrame_notices_resend (s : State) (f : Frame) :
    (s.goodFrame f).notices.resend = s.notices.resend := by
  unfold State.goodFrame; split <;> simp

@[simp] theorem State.goodFrame_notices_ready (s : State) (f : Frame) :
    (s.goodFrame f).notices.ready = s.notices.ready := by
  unfold State.goodFrame; split <;> simp

@[simp] theorem State.goodFrame_link_store (s : State) (f : Frame) : (s.goodFrame f).link.store = s.link.store := by
  unfold State.goodFrame; split <;> simp

@[simp] theorem State.goodFrame_link_helloOffered (s : State) (f : Frame) :
    (s.goodFrame f).link.helloOffered = s.link.helloOffered := by
  unfold State.goodFrame; split <;> simp

@[simp] theorem State.goodFrame_link_resetCause (s : State) (f : Frame) :
    (s.goodFrame f).link.resetCause = s.link.resetCause := by
  unfold State.goodFrame; split <;> simp

@[simp] theorem State.goodFrame_link_lspd (s : State) (f : Frame) : (s.goodFrame f).link.lspd = s.link.lspd := by
  unfold State.goodFrame; split <;> simp

@[simp] theorem State.goodFrame_link_stopped (s : State) (f : Frame) :
    (s.goodFrame f).link.stopped = s.link.stopped := by
  unfold State.goodFrame; split <;> simp

/-! ### takeChar -/

@[simp] theorem State.takeChar_held (s : State) (b : Byte) : (s.takeChar b).held = s.held := by
  unfold State.takeChar; split <;> simp

@[simp] theorem State.takeChar_pwq (s : State) (b : Byte) : (s.takeChar b).pwq = s.pwq := by
  unfold State.takeChar; split <;> simp

@[simp] theorem State.takeChar_drt (s : State) (b : Byte) : (s.takeChar b).drt = s.drt := by
  unfold State.takeChar; split <;> simp

@[simp] theorem State.takeChar_sched (s : State) (b : Byte) : (s.takeChar b).sched = s.sched := by
  unfold State.takeChar; split <;> simp

@[simp] theorem State.takeChar_engine (s : State) (b : Byte) : (s.takeChar b).engine = s.engine := by
  unfold State.takeChar; split <;> simp

@[simp] theorem State.takeChar_seg (s : State) (b : Byte) : (s.takeChar b).seg = s.seg := by
  unfold State.takeChar; split <;> simp

@[simp] theorem State.takeChar_segRst (s : State) (b : Byte) : (s.takeChar b).segRst = s.segRst := by
  unfold State.takeChar; split <;> simp

@[simp] theorem State.takeChar_segAttn (s : State) (b : Byte) : (s.takeChar b).segAttn = s.segAttn := by
  unfold State.takeChar; split <;> simp

@[simp] theorem State.takeChar_nodes (s : State) (b : Byte) : (s.takeChar b).nodes = s.nodes := by
  unfold State.takeChar; split <;> simp

@[simp] theorem State.takeChar_attn (s : State) (b : Byte) : (s.takeChar b).attn = s.attn := by
  unfold State.takeChar; split <;> simp

@[simp] theorem State.takeChar_params (s : State) (b : Byte) : (s.takeChar b).params = s.params := by
  unfold State.takeChar; split <;> simp

@[simp] theorem State.takeChar_pending (s : State) (b : Byte) : (s.takeChar b).pending = s.pending := by
  unfold State.takeChar; split <;> simp

@[simp] theorem State.takeChar_link_store (s : State) (b : Byte) : (s.takeChar b).link.store = s.link.store := by
  unfold State.takeChar; split <;> simp

@[simp] theorem State.takeChar_link_helloOffered (s : State) (b : Byte) :
    (s.takeChar b).link.helloOffered = s.link.helloOffered := by
  unfold State.takeChar; split <;> simp

@[simp] theorem State.takeChar_link_resetCause (s : State) (b : Byte) :
    (s.takeChar b).link.resetCause = s.link.resetCause := by
  unfold State.takeChar; split <;> simp

@[simp] theorem State.takeChar_link_lspd (s : State) (b : Byte) : (s.takeChar b).link.lspd = s.link.lspd := by
  unfold State.takeChar; split <;> simp

@[simp] theorem State.takeChar_link_stopped (s : State) (b : Byte) : (s.takeChar b).link.stopped = s.link.stopped := by
  unfold State.takeChar; split <;> simp

@[simp] theorem State.takeChars_held (s : State) (chars : List Byte) : (s.takeChars chars).held = s.held :=
  foldl_keeps (fun t : State => t.held) State.takeChar (fun t b => State.takeChar_held t b) chars s

@[simp] theorem State.takeChars_pwq (s : State) (chars : List Byte) : (s.takeChars chars).pwq = s.pwq :=
  foldl_keeps (fun t : State => t.pwq) State.takeChar (fun t b => State.takeChar_pwq t b) chars s

@[simp] theorem State.takeChars_drt (s : State) (chars : List Byte) : (s.takeChars chars).drt = s.drt :=
  foldl_keeps (fun t : State => t.drt) State.takeChar (fun t b => State.takeChar_drt t b) chars s

@[simp] theorem State.takeChars_sched (s : State) (chars : List Byte) : (s.takeChars chars).sched = s.sched :=
  foldl_keeps (fun t : State => t.sched) State.takeChar (fun t b => State.takeChar_sched t b) chars s

@[simp] theorem State.takeChars_engine (s : State) (chars : List Byte) : (s.takeChars chars).engine = s.engine :=
  foldl_keeps (fun t : State => t.engine) State.takeChar (fun t b => State.takeChar_engine t b) chars s

@[simp] theorem State.takeChars_seg (s : State) (chars : List Byte) : (s.takeChars chars).seg = s.seg :=
  foldl_keeps (fun t : State => t.seg) State.takeChar (fun t b => State.takeChar_seg t b) chars s

@[simp] theorem State.takeChars_segRst (s : State) (chars : List Byte) : (s.takeChars chars).segRst = s.segRst :=
  foldl_keeps (fun t : State => t.segRst) State.takeChar (fun t b => State.takeChar_segRst t b) chars s

@[simp] theorem State.takeChars_segAttn (s : State) (chars : List Byte) : (s.takeChars chars).segAttn = s.segAttn :=
  foldl_keeps (fun t : State => t.segAttn) State.takeChar (fun t b => State.takeChar_segAttn t b) chars s

@[simp] theorem State.takeChars_nodes (s : State) (chars : List Byte) : (s.takeChars chars).nodes = s.nodes :=
  foldl_keeps (fun t : State => t.nodes) State.takeChar (fun t b => State.takeChar_nodes t b) chars s

@[simp] theorem State.takeChars_attn (s : State) (chars : List Byte) : (s.takeChars chars).attn = s.attn :=
  foldl_keeps (fun t : State => t.attn) State.takeChar (fun t b => State.takeChar_attn t b) chars s

@[simp] theorem State.takeChars_params (s : State) (chars : List Byte) : (s.takeChars chars).params = s.params :=
  foldl_keeps (fun t : State => t.params) State.takeChar (fun t b => State.takeChar_params t b) chars s

@[simp] theorem State.takeChars_pending (s : State) (chars : List Byte) : (s.takeChars chars).pending = s.pending :=
  foldl_keeps (fun t : State => t.pending) State.takeChar (fun t b => State.takeChar_pending t b) chars s

@[simp] theorem State.takeChars_link_store (s : State) (chars : List Byte) :
    (s.takeChars chars).link.store = s.link.store :=
  foldl_keeps (fun t : State => t.link.store) State.takeChar (fun t b => State.takeChar_link_store t b) chars s

@[simp] theorem State.takeChars_link_helloOffered (s : State) (chars : List Byte) :
    (s.takeChars chars).link.helloOffered = s.link.helloOffered :=
  foldl_keeps (fun t : State => t.link.helloOffered) State.takeChar (fun t b => State.takeChar_link_helloOffered t b)
      chars s

@[simp] theorem State.takeChars_link_resetCause (s : State) (chars : List Byte) :
    (s.takeChars chars).link.resetCause = s.link.resetCause :=
  foldl_keeps (fun t : State => t.link.resetCause) State.takeChar (fun t b => State.takeChar_link_resetCause t b)
      chars s

@[simp] theorem State.takeChars_link_lspd (s : State) (chars : List Byte) :
    (s.takeChars chars).link.lspd = s.link.lspd :=
  foldl_keeps (fun t : State => t.link.lspd) State.takeChar (fun t b => State.takeChar_link_lspd t b) chars s

@[simp] theorem State.takeChars_link_stopped (s : State) (chars : List Byte) :
    (s.takeChars chars).link.stopped = s.link.stopped :=
  foldl_keeps (fun t : State => t.link.stopped) State.takeChar (fun t b => State.takeChar_link_stopped t b) chars s

/-! ### frameGap -/

@[simp] theorem State.frameGap_held (s : State) : s.frameGap.held = s.held := by
  unfold State.frameGap; split <;> simp

@[simp] theorem State.frameGap_pwq (s : State) : s.frameGap.pwq = s.pwq := by
  unfold State.frameGap; split <;> simp

@[simp] theorem State.frameGap_drt (s : State) : s.frameGap.drt = s.drt := by
  unfold State.frameGap; split <;> simp

@[simp] theorem State.frameGap_sched (s : State) : s.frameGap.sched = s.sched := by
  unfold State.frameGap; split <;> simp

@[simp] theorem State.frameGap_engine (s : State) : s.frameGap.engine = s.engine := by
  unfold State.frameGap; split <;> simp

@[simp] theorem State.frameGap_seg (s : State) : s.frameGap.seg = s.seg := by
  unfold State.frameGap; split <;> simp

@[simp] theorem State.frameGap_segRst (s : State) : s.frameGap.segRst = s.segRst := by
  unfold State.frameGap; split <;> simp

@[simp] theorem State.frameGap_segAttn (s : State) : s.frameGap.segAttn = s.segAttn := by
  unfold State.frameGap; split <;> simp

@[simp] theorem State.frameGap_nodes (s : State) : s.frameGap.nodes = s.nodes := by
  unfold State.frameGap; split <;> simp

@[simp] theorem State.frameGap_attn (s : State) : s.frameGap.attn = s.attn := by
  unfold State.frameGap; split <;> simp

@[simp] theorem State.frameGap_params (s : State) : s.frameGap.params = s.params := by
  unfold State.frameGap; split <;> simp

@[simp] theorem State.frameGap_pending (s : State) : s.frameGap.pending = s.pending := by
  unfold State.frameGap; split <;> simp

@[simp] theorem State.frameGap_link_store (s : State) : s.frameGap.link.store = s.link.store := by
  unfold State.frameGap; split <;> simp

@[simp] theorem State.frameGap_link_helloOffered (s : State) : s.frameGap.link.helloOffered = s.link.helloOffered := by
  unfold State.frameGap; split <;> simp

@[simp] theorem State.frameGap_link_resetCause (s : State) : s.frameGap.link.resetCause = s.link.resetCause := by
  unfold State.frameGap; split <;> simp

@[simp] theorem State.frameGap_link_lspd (s : State) : s.frameGap.link.lspd = s.link.lspd := by
  unfold State.frameGap; split <;> simp

@[simp] theorem State.frameGap_link_stopped (s : State) : s.frameGap.link.stopped = s.link.stopped := by
  unfold State.frameGap; split <;> simp

/-! ### lowPeriod -/

@[simp] theorem State.lowPeriod_held (s : State) : s.lowPeriod.held = s.held := by
  simp [State.lowPeriod]

@[simp] theorem State.lowPeriod_pwq (s : State) : s.lowPeriod.pwq = s.pwq := by
  simp [State.lowPeriod]

@[simp] theorem State.lowPeriod_drt (s : State) : s.lowPeriod.drt = s.drt := by
  simp [State.lowPeriod]

@[simp] theorem State.lowPeriod_sched (s : State) : s.lowPeriod.sched = s.sched := by
  simp [State.lowPeriod]

@[simp] theorem State.lowPeriod_engine (s : State) : s.lowPeriod.engine = s.engine := by
  simp [State.lowPeriod]

@[simp] theorem State.lowPeriod_seg (s : State) : s.lowPeriod.seg = s.seg := by
  simp [State.lowPeriod]

@[simp] theorem State.lowPeriod_segRst (s : State) : s.lowPeriod.segRst = s.segRst := by
  simp [State.lowPeriod]

@[simp] theorem State.lowPeriod_segAttn (s : State) : s.lowPeriod.segAttn = s.segAttn := by
  simp [State.lowPeriod]

@[simp] theorem State.lowPeriod_nodes (s : State) : s.lowPeriod.nodes = s.nodes := by
  simp [State.lowPeriod]

@[simp] theorem State.lowPeriod_attn (s : State) : s.lowPeriod.attn = s.attn := by
  simp [State.lowPeriod]

@[simp] theorem State.lowPeriod_params (s : State) : s.lowPeriod.params = s.params := by
  simp [State.lowPeriod]

@[simp] theorem State.lowPeriod_pending (s : State) : s.lowPeriod.pending = s.pending := by
  simp [State.lowPeriod]

@[simp] theorem State.lowPeriod_link_store (s : State) : s.lowPeriod.link.store = s.link.store := by
  simp [State.lowPeriod]

@[simp] theorem State.lowPeriod_link_helloOffered (s : State) : s.lowPeriod.link.helloOffered = s.link.helloOffered :=
    by
  simp [State.lowPeriod]

@[simp] theorem State.lowPeriod_link_resetCause (s : State) : s.lowPeriod.link.resetCause = s.link.resetCause := by
  simp [State.lowPeriod]

@[simp] theorem State.lowPeriod_link_lspd (s : State) : s.lowPeriod.link.lspd = s.link.lspd := by
  simp [State.lowPeriod]

@[simp] theorem State.lowPeriod_link_stopped (s : State) : s.lowPeriod.link.stopped = s.link.stopped := by
  simp [State.lowPeriod]

/-! ### discardAll -/

@[simp] theorem State.discardAll_held (s : State) : s.discardAll.held = s.held := by
  unfold State.discardAll; split <;> simp

@[simp] theorem State.discardAll_drt (s : State) : s.discardAll.drt = s.drt := by
  unfold State.discardAll; split <;> simp

@[simp] theorem State.discardAll_sched (s : State) : s.discardAll.sched = s.sched := by
  unfold State.discardAll; split <;> simp

@[simp] theorem State.discardAll_engine (s : State) : s.discardAll.engine = s.engine := by
  unfold State.discardAll; split <;> simp

@[simp] theorem State.discardAll_seg (s : State) : s.discardAll.seg = s.seg := by
  unfold State.discardAll; split <;> simp

@[simp] theorem State.discardAll_segRst (s : State) : s.discardAll.segRst = s.segRst := by
  unfold State.discardAll; split <;> simp

@[simp] theorem State.discardAll_segAttn (s : State) : s.discardAll.segAttn = s.segAttn := by
  unfold State.discardAll; split <;> simp

@[simp] theorem State.discardAll_nodes (s : State) : s.discardAll.nodes = s.nodes := by
  unfold State.discardAll; split <;> simp

@[simp] theorem State.discardAll_attn (s : State) : s.discardAll.attn = s.attn := by
  unfold State.discardAll; split <;> simp

@[simp] theorem State.discardAll_link (s : State) : s.discardAll.link = s.link := by
  unfold State.discardAll; split <;> simp

@[simp] theorem State.discardAll_params (s : State) : s.discardAll.params = s.params := by
  unfold State.discardAll; split <;> simp

@[simp] theorem State.discardAll_pending (s : State) : s.discardAll.pending = s.pending := by
  unfold State.discardAll; split <;> simp

@[simp] theorem State.discardAll_pwq_nextNumber (s : State) : s.discardAll.pwq.nextNumber = s.pwq.nextNumber := by
  unfold State.discardAll; split <;> simp

@[simp] theorem State.discardAll_notices_resend (s : State) : s.discardAll.notices.resend = s.notices.resend := by
  unfold State.discardAll; split <;> simp

@[simp] theorem State.discardAll_notices_ready (s : State) : s.discardAll.notices.ready = s.notices.ready := by
  unfold State.discardAll; split <;> simp

/-! ### resetSlot -/

@[simp] theorem State.resetSlot_held (s : State) (i : SlotId) : (s.resetSlot i).held = s.held := by
  unfold State.resetSlot; repeat' split
  all_goals simp

@[simp] theorem State.resetSlot_sched (s : State) (i : SlotId) : (s.resetSlot i).sched = s.sched := by
  unfold State.resetSlot; repeat' split
  all_goals simp

@[simp] theorem State.resetSlot_engine (s : State) (i : SlotId) : (s.resetSlot i).engine = s.engine := by
  unfold State.resetSlot; repeat' split
  all_goals simp

@[simp] theorem State.resetSlot_seg (s : State) (i : SlotId) : (s.resetSlot i).seg = s.seg := by
  unfold State.resetSlot; repeat' split
  all_goals simp

@[simp] theorem State.resetSlot_segRst (s : State) (i : SlotId) : (s.resetSlot i).segRst = s.segRst := by
  unfold State.resetSlot; repeat' split
  all_goals simp

@[simp] theorem State.resetSlot_segAttn (s : State) (i : SlotId) : (s.resetSlot i).segAttn = s.segAttn := by
  unfold State.resetSlot; repeat' split
  all_goals simp

@[simp] theorem State.resetSlot_nodes (s : State) (i : SlotId) : (s.resetSlot i).nodes = s.nodes := by
  unfold State.resetSlot; repeat' split
  all_goals simp

@[simp] theorem State.resetSlot_attn (s : State) (i : SlotId) : (s.resetSlot i).attn = s.attn := by
  unfold State.resetSlot; repeat' split
  all_goals simp

@[simp] theorem State.resetSlot_link (s : State) (i : SlotId) : (s.resetSlot i).link = s.link := by
  unfold State.resetSlot; repeat' split
  all_goals simp

@[simp] theorem State.resetSlot_params (s : State) (i : SlotId) : (s.resetSlot i).params = s.params := by
  unfold State.resetSlot; repeat' split
  all_goals simp

@[simp] theorem State.resetSlot_pending (s : State) (i : SlotId) : (s.resetSlot i).pending = s.pending := by
  unfold State.resetSlot; repeat' split
  all_goals simp

@[simp] theorem State.resetSlot_pwq_queue (s : State) (i : SlotId) : (s.resetSlot i).pwq.queue = s.pwq.queue := by
  unfold State.resetSlot; repeat' split
  all_goals simp

@[simp] theorem State.resetSlot_pwq_nextNumber (s : State) (i : SlotId) :
    (s.resetSlot i).pwq.nextNumber = s.pwq.nextNumber := by
  unfold State.resetSlot; repeat' split
  all_goals simp

@[simp] theorem State.resetSlot_notices_queue (s : State) (i : SlotId) :
    (s.resetSlot i).notices.queue = s.notices.queue := by
  unfold State.resetSlot; repeat' split
  all_goals simp

@[simp] theorem State.resetSlot_notices_next (s : State) (i : SlotId) :
    (s.resetSlot i).notices.next = s.notices.next := by
  unfold State.resetSlot; repeat' split
  all_goals simp

@[simp] theorem State.resetSlot_notices_lostFaults (s : State) (i : SlotId) :
    (s.resetSlot i).notices.lostFaults = s.notices.lostFaults := by
  unfold State.resetSlot; repeat' split
  all_goals simp

@[simp] theorem State.resetSlot_notices_resend (s : State) (i : SlotId) :
    (s.resetSlot i).notices.resend = s.notices.resend := by
  unfold State.resetSlot; repeat' split
  all_goals simp

@[simp] theorem State.resetSlots_held (s : State) : s.resetSlots.held = s.held := by
  unfold State.resetSlots
  exact foldl_keeps (fun t : State => t.held) State.resetSlot (fun t i => State.resetSlot_held t i) allSlots s

@[simp] theorem State.resetSlots_sched (s : State) : s.resetSlots.sched = s.sched := by
  unfold State.resetSlots
  exact foldl_keeps (fun t : State => t.sched) State.resetSlot (fun t i => State.resetSlot_sched t i) allSlots s

@[simp] theorem State.resetSlots_engine (s : State) : s.resetSlots.engine = s.engine := by
  unfold State.resetSlots
  exact foldl_keeps (fun t : State => t.engine) State.resetSlot (fun t i => State.resetSlot_engine t i) allSlots s

@[simp] theorem State.resetSlots_seg (s : State) : s.resetSlots.seg = s.seg := by
  unfold State.resetSlots
  exact foldl_keeps (fun t : State => t.seg) State.resetSlot (fun t i => State.resetSlot_seg t i) allSlots s

@[simp] theorem State.resetSlots_segRst (s : State) : s.resetSlots.segRst = s.segRst := by
  unfold State.resetSlots
  exact foldl_keeps (fun t : State => t.segRst) State.resetSlot (fun t i => State.resetSlot_segRst t i) allSlots s

@[simp] theorem State.resetSlots_segAttn (s : State) : s.resetSlots.segAttn = s.segAttn := by
  unfold State.resetSlots
  exact foldl_keeps (fun t : State => t.segAttn) State.resetSlot (fun t i => State.resetSlot_segAttn t i) allSlots s

@[simp] theorem State.resetSlots_nodes (s : State) : s.resetSlots.nodes = s.nodes := by
  unfold State.resetSlots
  exact foldl_keeps (fun t : State => t.nodes) State.resetSlot (fun t i => State.resetSlot_nodes t i) allSlots s

@[simp] theorem State.resetSlots_attn (s : State) : s.resetSlots.attn = s.attn := by
  unfold State.resetSlots
  exact foldl_keeps (fun t : State => t.attn) State.resetSlot (fun t i => State.resetSlot_attn t i) allSlots s

@[simp] theorem State.resetSlots_link (s : State) : s.resetSlots.link = s.link := by
  unfold State.resetSlots
  exact foldl_keeps (fun t : State => t.link) State.resetSlot (fun t i => State.resetSlot_link t i) allSlots s

@[simp] theorem State.resetSlots_params (s : State) : s.resetSlots.params = s.params := by
  unfold State.resetSlots
  exact foldl_keeps (fun t : State => t.params) State.resetSlot (fun t i => State.resetSlot_params t i) allSlots s

@[simp] theorem State.resetSlots_pending (s : State) : s.resetSlots.pending = s.pending := by
  unfold State.resetSlots
  exact foldl_keeps (fun t : State => t.pending) State.resetSlot (fun t i => State.resetSlot_pending t i) allSlots s

@[simp] theorem State.resetSlots_pwq_queue (s : State) : s.resetSlots.pwq.queue = s.pwq.queue := by
  unfold State.resetSlots
  exact foldl_keeps (fun t : State => t.pwq.queue) State.resetSlot (fun t i => State.resetSlot_pwq_queue t i) allSlots s

@[simp] theorem State.resetSlots_pwq_nextNumber (s : State) : s.resetSlots.pwq.nextNumber = s.pwq.nextNumber := by
  unfold State.resetSlots
  exact foldl_keeps (fun t : State => t.pwq.nextNumber) State.resetSlot
      (fun t i => State.resetSlot_pwq_nextNumber t i) allSlots s

@[simp] theorem State.resetSlots_notices_queue (s : State) : s.resetSlots.notices.queue = s.notices.queue := by
  unfold State.resetSlots
  exact foldl_keeps (fun t : State => t.notices.queue) State.resetSlot (fun t i => State.resetSlot_notices_queue t i)
      allSlots s

@[simp] theorem State.resetSlots_notices_next (s : State) : s.resetSlots.notices.next = s.notices.next := by
  unfold State.resetSlots
  exact foldl_keeps (fun t : State => t.notices.next) State.resetSlot (fun t i => State.resetSlot_notices_next t i)
      allSlots s

@[simp] theorem State.resetSlots_notices_lostFaults (s : State) : s.resetSlots.notices.lostFaults =
    s.notices.lostFaults := by
  unfold State.resetSlots
  exact foldl_keeps (fun t : State => t.notices.lostFaults) State.resetSlot
      (fun t i => State.resetSlot_notices_lostFaults t i) allSlots s

@[simp] theorem State.resetSlots_notices_resend (s : State) : s.resetSlots.notices.resend = s.notices.resend := by
  unfold State.resetSlots
  exact foldl_keeps (fun t : State => t.notices.resend) State.resetSlot
      (fun t i => State.resetSlot_notices_resend t i) allSlots s

/-! ### enterResetting -/

@[simp] theorem State.enterResetting_held (s : State) (cause : RestartCause) :
    (s.enterResetting cause).held = s.held := by
  simp [State.enterResetting]

@[simp] theorem State.enterResetting_segAttn (s : State) (cause : RestartCause) :
    (s.enterResetting cause).segAttn = s.segAttn := by
  simp [State.enterResetting]

@[simp] theorem State.enterResetting_link (s : State) (cause : RestartCause) :
    (s.enterResetting cause).link = s.link := by
  simp [State.enterResetting]

@[simp] theorem State.enterResetting_params (s : State) (cause : RestartCause) :
    (s.enterResetting cause).params = s.params := by
  simp [State.enterResetting]

@[simp] theorem State.enterResetting_pending (s : State) (cause : RestartCause) :
    (s.enterResetting cause).pending = s.pending := by
  simp [State.enterResetting]

@[simp] theorem State.enterResetting_pwq_nextNumber (s : State) (cause : RestartCause) :
    (s.enterResetting cause).pwq.nextNumber = s.pwq.nextNumber := by
  simp [State.enterResetting]

@[simp] theorem State.enterResetting_notices_resend (s : State) (cause : RestartCause) :
    (s.enterResetting cause).notices.resend = s.notices.resend := by
  simp [State.enterResetting]

/-! ### enterRunning -/

@[simp] theorem State.enterRunning_held (s : State) : s.enterRunning.held = s.held := by
  simp [State.enterRunning]

@[simp] theorem State.enterRunning_segRst (s : State) : s.enterRunning.segRst = s.segRst := by
  simp [State.enterRunning]

@[simp] theorem State.enterRunning_segAttn (s : State) : s.enterRunning.segAttn = s.segAttn := by
  simp [State.enterRunning]

@[simp] theorem State.enterRunning_nodes (s : State) : s.enterRunning.nodes = s.nodes := by
  simp [State.enterRunning]

@[simp] theorem State.enterRunning_link (s : State) : s.enterRunning.link = s.link := by
  simp [State.enterRunning]

@[simp] theorem State.enterRunning_params (s : State) : s.enterRunning.params = s.params := by
  simp [State.enterRunning]

@[simp] theorem State.enterRunning_pending (s : State) : s.enterRunning.pending = s.pending := by
  simp [State.enterRunning]

@[simp] theorem State.enterRunning_pwq_nextNumber (s : State) : s.enterRunning.pwq.nextNumber = s.pwq.nextNumber := by
  simp [State.enterRunning]

@[simp] theorem State.enterRunning_pwq_lossCount (s : State) : s.enterRunning.pwq.lossCount = s.pwq.lossCount := by
  simp [State.enterRunning]

@[simp] theorem State.enterRunning_pwq_entries (s : State) : s.enterRunning.pwq.entries = s.pwq.entries := by
  simp [State.enterRunning]

@[simp] theorem State.enterRunning_attn_holdoff (s : State) : s.enterRunning.attn.holdoff = s.attn.holdoff := by
  simp [State.enterRunning]

@[simp] theorem State.enterRunning_notices_resend (s : State) : s.enterRunning.notices.resend = s.notices.resend := by
  simp [State.enterRunning]

/-! ### holdExpires -/

@[simp] theorem State.holdExpires_held (s : State) : s.holdExpires.held = s.held := by
  unfold State.holdExpires; split <;> simp

@[simp] theorem State.holdExpires_segAttn (s : State) : s.holdExpires.segAttn = s.segAttn := by
  unfold State.holdExpires; split <;> simp

@[simp] theorem State.holdExpires_nodes (s : State) : s.holdExpires.nodes = s.nodes := by
  unfold State.holdExpires; split <;> simp

@[simp] theorem State.holdExpires_link (s : State) : s.holdExpires.link = s.link := by
  unfold State.holdExpires; split <;> simp

@[simp] theorem State.holdExpires_params (s : State) : s.holdExpires.params = s.params := by
  unfold State.holdExpires; split <;> simp

@[simp] theorem State.holdExpires_pending (s : State) : s.holdExpires.pending = s.pending := by
  unfold State.holdExpires; split <;> simp

@[simp] theorem State.holdExpires_pwq_nextNumber (s : State) : s.holdExpires.pwq.nextNumber = s.pwq.nextNumber := by
  unfold State.holdExpires; split <;> simp

@[simp] theorem State.holdExpires_pwq_lossCount (s : State) : s.holdExpires.pwq.lossCount = s.pwq.lossCount := by
  unfold State.holdExpires; split <;> simp

@[simp] theorem State.holdExpires_pwq_entries (s : State) : s.holdExpires.pwq.entries = s.pwq.entries := by
  unfold State.holdExpires; split <;> simp

@[simp] theorem State.holdExpires_attn_holdoff (s : State) : s.holdExpires.attn.holdoff = s.attn.holdoff := by
  unfold State.holdExpires; split <;> simp

@[simp] theorem State.holdExpires_notices_resend (s : State) : s.holdExpires.notices.resend = s.notices.resend := by
  unfold State.holdExpires; split <;> simp

/-! ### segmentReset -/

@[simp] theorem State.segmentReset_held (s : State) : s.segmentReset.held = s.held := by
  unfold State.segmentReset; split <;> simp

@[simp] theorem State.segmentReset_segAttn (s : State) : s.segmentReset.segAttn = s.segAttn := by
  unfold State.segmentReset; split <;> simp

@[simp] theorem State.segmentReset_link (s : State) : s.segmentReset.link = s.link := by
  unfold State.segmentReset; split <;> simp

@[simp] theorem State.segmentReset_params (s : State) : s.segmentReset.params = s.params := by
  unfold State.segmentReset; split <;> simp

@[simp] theorem State.segmentReset_pending (s : State) : s.segmentReset.pending = s.pending := by
  unfold State.segmentReset; split <;> simp

@[simp] theorem State.segmentReset_pwq_nextNumber (s : State) : s.segmentReset.pwq.nextNumber = s.pwq.nextNumber := by
  unfold State.segmentReset; split <;> simp

@[simp] theorem State.segmentReset_notices_resend (s : State) : s.segmentReset.notices.resend = s.notices.resend := by
  unfold State.segmentReset; split <;> simp

/-! ### runningAnswer -/

@[simp] theorem State.runningAnswer_held (s : State) (i : SlotId) (sl : Slot) :
    (s.runningAnswer i sl).1.held = s.held := by
  unfold State.runningAnswer; repeat' split
  all_goals simp [State.partialAnswer]

@[simp] theorem State.runningAnswer_pwq (s : State) (i : SlotId) (sl : Slot) :
    (s.runningAnswer i sl).1.pwq = s.pwq := by
  unfold State.runningAnswer; repeat' split
  all_goals simp [State.partialAnswer]

@[simp] theorem State.runningAnswer_sched (s : State) (i : SlotId) (sl : Slot) :
    (s.runningAnswer i sl).1.sched = s.sched := by
  unfold State.runningAnswer; repeat' split
  all_goals simp [State.partialAnswer]

@[simp] theorem State.runningAnswer_engine (s : State) (i : SlotId) (sl : Slot) :
    (s.runningAnswer i sl).1.engine = s.engine := by
  unfold State.runningAnswer; repeat' split
  all_goals simp [State.partialAnswer]

@[simp] theorem State.runningAnswer_seg (s : State) (i : SlotId) (sl : Slot) :
    (s.runningAnswer i sl).1.seg = s.seg := by
  unfold State.runningAnswer; repeat' split
  all_goals simp [State.partialAnswer]

@[simp] theorem State.runningAnswer_segRst (s : State) (i : SlotId) (sl : Slot) :
    (s.runningAnswer i sl).1.segRst = s.segRst := by
  unfold State.runningAnswer; repeat' split
  all_goals simp [State.partialAnswer]

@[simp] theorem State.runningAnswer_segAttn (s : State) (i : SlotId) (sl : Slot) :
    (s.runningAnswer i sl).1.segAttn = s.segAttn := by
  unfold State.runningAnswer; repeat' split
  all_goals simp [State.partialAnswer]

@[simp] theorem State.runningAnswer_nodes (s : State) (i : SlotId) (sl : Slot) :
    (s.runningAnswer i sl).1.nodes = s.nodes := by
  unfold State.runningAnswer; repeat' split
  all_goals simp [State.partialAnswer]

@[simp] theorem State.runningAnswer_attn (s : State) (i : SlotId) (sl : Slot) :
    (s.runningAnswer i sl).1.attn = s.attn := by
  unfold State.runningAnswer; repeat' split
  all_goals simp [State.partialAnswer]

@[simp] theorem State.runningAnswer_notices (s : State) (i : SlotId) (sl : Slot) :
    (s.runningAnswer i sl).1.notices = s.notices := by
  unfold State.runningAnswer; repeat' split
  all_goals simp [State.partialAnswer]

@[simp] theorem State.runningAnswer_link (s : State) (i : SlotId) (sl : Slot) :
    (s.runningAnswer i sl).1.link = s.link := by
  unfold State.runningAnswer; repeat' split
  all_goals simp [State.partialAnswer]

@[simp] theorem State.runningAnswer_params (s : State) (i : SlotId) (sl : Slot) :
    (s.runningAnswer i sl).1.params = s.params := by
  unfold State.runningAnswer; repeat' split
  all_goals simp [State.partialAnswer]

@[simp] theorem State.runningAnswer_counters (s : State) (i : SlotId) (sl : Slot) :
    (s.runningAnswer i sl).1.counters = s.counters := by
  unfold State.runningAnswer; repeat' split
  all_goals simp [State.partialAnswer]

@[simp] theorem State.runningAnswer_pending (s : State) (i : SlotId) (sl : Slot) :
    (s.runningAnswer i sl).1.pending = s.pending := by
  unfold State.runningAnswer; repeat' split
  all_goals simp [State.partialAnswer]

@[simp] theorem State.runningAnswer_notices_queue (s : State) (i : SlotId) (sl : Slot) :
    (s.runningAnswer i sl).1.notices.queue = s.notices.queue := by
  unfold State.runningAnswer; repeat' split
  all_goals simp [State.partialAnswer]

@[simp] theorem State.runningAnswer_notices_next (s : State) (i : SlotId) (sl : Slot) :
    (s.runningAnswer i sl).1.notices.next = s.notices.next := by
  unfold State.runningAnswer; repeat' split
  all_goals simp [State.partialAnswer]

@[simp] theorem State.runningAnswer_notices_lostFaults (s : State) (i : SlotId) (sl : Slot) :
    (s.runningAnswer i sl).1.notices.lostFaults = s.notices.lostFaults := by
  unfold State.runningAnswer; repeat' split
  all_goals simp [State.partialAnswer]

@[simp] theorem State.runningAnswer_notices_resend (s : State) (i : SlotId) (sl : Slot) :
    (s.runningAnswer i sl).1.notices.resend = s.notices.resend := by
  unfold State.runningAnswer; repeat' split
  all_goals simp [State.partialAnswer]

/-! ### completeAnswer -/

@[simp] theorem State.completeAnswer_held (s : State) (i : SlotId) (sl : Slot) :
    (s.completeAnswer i sl).1.held = s.held := by
  unfold State.completeAnswer; split <;> simp

@[simp] theorem State.completeAnswer_pwq (s : State) (i : SlotId) (sl : Slot) :
    (s.completeAnswer i sl).1.pwq = s.pwq := by
  unfold State.completeAnswer; split <;> simp

@[simp] theorem State.completeAnswer_sched (s : State) (i : SlotId) (sl : Slot) :
    (s.completeAnswer i sl).1.sched = s.sched := by
  unfold State.completeAnswer; split <;> simp

@[simp] theorem State.completeAnswer_engine (s : State) (i : SlotId) (sl : Slot) :
    (s.completeAnswer i sl).1.engine = s.engine := by
  unfold State.completeAnswer; split <;> simp

@[simp] theorem State.completeAnswer_seg (s : State) (i : SlotId) (sl : Slot) :
    (s.completeAnswer i sl).1.seg = s.seg := by
  unfold State.completeAnswer; split <;> simp

@[simp] theorem State.completeAnswer_segRst (s : State) (i : SlotId) (sl : Slot) :
    (s.completeAnswer i sl).1.segRst = s.segRst := by
  unfold State.completeAnswer; split <;> simp

@[simp] theorem State.completeAnswer_segAttn (s : State) (i : SlotId) (sl : Slot) :
    (s.completeAnswer i sl).1.segAttn = s.segAttn := by
  unfold State.completeAnswer; split <;> simp

@[simp] theorem State.completeAnswer_nodes (s : State) (i : SlotId) (sl : Slot) :
    (s.completeAnswer i sl).1.nodes = s.nodes := by
  unfold State.completeAnswer; split <;> simp

@[simp] theorem State.completeAnswer_attn (s : State) (i : SlotId) (sl : Slot) :
    (s.completeAnswer i sl).1.attn = s.attn := by
  unfold State.completeAnswer; split <;> simp

@[simp] theorem State.completeAnswer_link (s : State) (i : SlotId) (sl : Slot) :
    (s.completeAnswer i sl).1.link = s.link := by
  unfold State.completeAnswer; split <;> simp

@[simp] theorem State.completeAnswer_params (s : State) (i : SlotId) (sl : Slot) :
    (s.completeAnswer i sl).1.params = s.params := by
  unfold State.completeAnswer; split <;> simp

@[simp] theorem State.completeAnswer_counters (s : State) (i : SlotId) (sl : Slot) :
    (s.completeAnswer i sl).1.counters = s.counters := by
  unfold State.completeAnswer; split <;> simp

@[simp] theorem State.completeAnswer_pending (s : State) (i : SlotId) (sl : Slot) :
    (s.completeAnswer i sl).1.pending = s.pending := by
  unfold State.completeAnswer; split <;> simp

@[simp] theorem State.completeAnswer_notices_queue (s : State) (i : SlotId) (sl : Slot) :
    (s.completeAnswer i sl).1.notices.queue = s.notices.queue := by
  unfold State.completeAnswer; split <;> simp

@[simp] theorem State.completeAnswer_notices_next (s : State) (i : SlotId) (sl : Slot) :
    (s.completeAnswer i sl).1.notices.next = s.notices.next := by
  unfold State.completeAnswer; split <;> simp

@[simp] theorem State.completeAnswer_notices_lostFaults (s : State) (i : SlotId) (sl : Slot) :
    (s.completeAnswer i sl).1.notices.lostFaults = s.notices.lostFaults := by
  unfold State.completeAnswer; split <;> simp

@[simp] theorem State.completeAnswer_notices_resend (s : State) (i : SlotId) (sl : Slot) :
    (s.completeAnswer i sl).1.notices.resend = s.notices.resend := by
  unfold State.completeAnswer; split <;> simp

/-! ### repeatAnswer -/

@[simp] theorem State.repeatAnswer_held (s : State) (i : SlotId) : (s.repeatAnswer i).1.held = s.held := by
  unfold State.repeatAnswer; repeat' split
  all_goals simp

@[simp] theorem State.repeatAnswer_pwq (s : State) (i : SlotId) : (s.repeatAnswer i).1.pwq = s.pwq := by
  unfold State.repeatAnswer; repeat' split
  all_goals simp

@[simp] theorem State.repeatAnswer_sched (s : State) (i : SlotId) : (s.repeatAnswer i).1.sched = s.sched := by
  unfold State.repeatAnswer; repeat' split
  all_goals simp

@[simp] theorem State.repeatAnswer_engine (s : State) (i : SlotId) : (s.repeatAnswer i).1.engine = s.engine := by
  unfold State.repeatAnswer; repeat' split
  all_goals simp

@[simp] theorem State.repeatAnswer_seg (s : State) (i : SlotId) : (s.repeatAnswer i).1.seg = s.seg := by
  unfold State.repeatAnswer; repeat' split
  all_goals simp

@[simp] theorem State.repeatAnswer_segRst (s : State) (i : SlotId) : (s.repeatAnswer i).1.segRst = s.segRst := by
  unfold State.repeatAnswer; repeat' split
  all_goals simp

@[simp] theorem State.repeatAnswer_segAttn (s : State) (i : SlotId) : (s.repeatAnswer i).1.segAttn = s.segAttn := by
  unfold State.repeatAnswer; repeat' split
  all_goals simp

@[simp] theorem State.repeatAnswer_nodes (s : State) (i : SlotId) : (s.repeatAnswer i).1.nodes = s.nodes := by
  unfold State.repeatAnswer; repeat' split
  all_goals simp

@[simp] theorem State.repeatAnswer_attn (s : State) (i : SlotId) : (s.repeatAnswer i).1.attn = s.attn := by
  unfold State.repeatAnswer; repeat' split
  all_goals simp

@[simp] theorem State.repeatAnswer_link (s : State) (i : SlotId) : (s.repeatAnswer i).1.link = s.link := by
  unfold State.repeatAnswer; repeat' split
  all_goals simp

@[simp] theorem State.repeatAnswer_params (s : State) (i : SlotId) : (s.repeatAnswer i).1.params = s.params := by
  unfold State.repeatAnswer; repeat' split
  all_goals simp

@[simp] theorem State.repeatAnswer_counters (s : State) (i : SlotId) : (s.repeatAnswer i).1.counters = s.counters := by
  unfold State.repeatAnswer; repeat' split
  all_goals simp

@[simp] theorem State.repeatAnswer_pending (s : State) (i : SlotId) : (s.repeatAnswer i).1.pending = s.pending := by
  unfold State.repeatAnswer; repeat' split
  all_goals simp

@[simp] theorem State.repeatAnswer_notices_queue (s : State) (i : SlotId) :
    (s.repeatAnswer i).1.notices.queue = s.notices.queue := by
  unfold State.repeatAnswer; repeat' split
  all_goals simp

@[simp] theorem State.repeatAnswer_notices_next (s : State) (i : SlotId) :
    (s.repeatAnswer i).1.notices.next = s.notices.next := by
  unfold State.repeatAnswer; repeat' split
  all_goals simp

@[simp] theorem State.repeatAnswer_notices_lostFaults (s : State) (i : SlotId) :
    (s.repeatAnswer i).1.notices.lostFaults = s.notices.lostFaults := by
  unfold State.repeatAnswer; repeat' split
  all_goals simp

@[simp] theorem State.repeatAnswer_notices_resend (s : State) (i : SlotId) :
    (s.repeatAnswer i).1.notices.resend = s.notices.resend := by
  unfold State.repeatAnswer; repeat' split
  all_goals simp

/-! ### fillAnswer -/

@[simp] theorem State.fillAnswer_held (s : State) (i : SlotId) (req : DelayedReq) (notify : Bool) :
    (s.fillAnswer i req notify).1.held = s.held := by
  unfold State.fillAnswer; dsimp only; repeat' split
  all_goals simp

@[simp] theorem State.fillAnswer_seg (s : State) (i : SlotId) (req : DelayedReq) (notify : Bool) :
    (s.fillAnswer i req notify).1.seg = s.seg := by
  unfold State.fillAnswer; dsimp only; repeat' split
  all_goals simp

@[simp] theorem State.fillAnswer_segRst (s : State) (i : SlotId) (req : DelayedReq) (notify : Bool) :
    (s.fillAnswer i req notify).1.segRst = s.segRst := by
  unfold State.fillAnswer; dsimp only; repeat' split
  all_goals simp

@[simp] theorem State.fillAnswer_segAttn (s : State) (i : SlotId) (req : DelayedReq) (notify : Bool) :
    (s.fillAnswer i req notify).1.segAttn = s.segAttn := by
  unfold State.fillAnswer; dsimp only; repeat' split
  all_goals simp

@[simp] theorem State.fillAnswer_nodes (s : State) (i : SlotId) (req : DelayedReq) (notify : Bool) :
    (s.fillAnswer i req notify).1.nodes = s.nodes := by
  unfold State.fillAnswer; dsimp only; repeat' split
  all_goals simp

@[simp] theorem State.fillAnswer_link (s : State) (i : SlotId) (req : DelayedReq) (notify : Bool) :
    (s.fillAnswer i req notify).1.link = s.link := by
  unfold State.fillAnswer; dsimp only; repeat' split
  all_goals simp

@[simp] theorem State.fillAnswer_params (s : State) (i : SlotId) (req : DelayedReq) (notify : Bool) :
    (s.fillAnswer i req notify).1.params = s.params := by
  unfold State.fillAnswer; dsimp only; repeat' split
  all_goals simp

@[simp] theorem State.fillAnswer_pending (s : State) (i : SlotId) (req : DelayedReq) (notify : Bool) :
    (s.fillAnswer i req notify).1.pending = s.pending := by
  unfold State.fillAnswer; dsimp only; repeat' split
  all_goals simp

@[simp] theorem State.fillAnswer_pwq_nextNumber (s : State) (i : SlotId) (req : DelayedReq) (notify : Bool) :
    (s.fillAnswer i req notify).1.pwq.nextNumber = s.pwq.nextNumber := by
  unfold State.fillAnswer; dsimp only; repeat' split
  all_goals simp

@[simp] theorem State.fillAnswer_pwq_entries (s : State) (i : SlotId) (req : DelayedReq) (notify : Bool) :
    (s.fillAnswer i req notify).1.pwq.entries = s.pwq.entries := by
  unfold State.fillAnswer; dsimp only; repeat' split
  all_goals simp

@[simp] theorem State.fillAnswer_attn_holdoff (s : State) (i : SlotId) (req : DelayedReq) (notify : Bool) :
    (s.fillAnswer i req notify).1.attn.holdoff = s.attn.holdoff := by
  unfold State.fillAnswer; dsimp only; repeat' split
  all_goals simp

@[simp] theorem State.fillAnswer_notices_queue (s : State) (i : SlotId) (req : DelayedReq) (notify : Bool) :
    (s.fillAnswer i req notify).1.notices.queue = s.notices.queue := by
  unfold State.fillAnswer; dsimp only; repeat' split
  all_goals simp

@[simp] theorem State.fillAnswer_notices_next (s : State) (i : SlotId) (req : DelayedReq) (notify : Bool) :
    (s.fillAnswer i req notify).1.notices.next = s.notices.next := by
  unfold State.fillAnswer; dsimp only; repeat' split
  all_goals simp

@[simp] theorem State.fillAnswer_notices_lostFaults (s : State) (i : SlotId) (req : DelayedReq) (notify : Bool) :
    (s.fillAnswer i req notify).1.notices.lostFaults = s.notices.lostFaults := by
  unfold State.fillAnswer; dsimp only; repeat' split
  all_goals simp

@[simp] theorem State.fillAnswer_notices_resend (s : State) (i : SlotId) (req : DelayedReq) (notify : Bool) :
    (s.fillAnswer i req notify).1.notices.resend = s.notices.resend := by
  unfold State.fillAnswer; dsimp only; repeat' split
  all_goals simp

/-! ### takeDelayed -/

@[simp] theorem State.takeDelayed_held (s : State) (req : DelayedReq) (notify : Bool) :
    (s.takeDelayed req notify).1.held = s.held := by
  unfold State.takeDelayed; repeat' split
  all_goals simp

@[simp] theorem State.takeDelayed_seg (s : State) (req : DelayedReq) (notify : Bool) :
    (s.takeDelayed req notify).1.seg = s.seg := by
  unfold State.takeDelayed; repeat' split
  all_goals simp

@[simp] theorem State.takeDelayed_segRst (s : State) (req : DelayedReq) (notify : Bool) :
    (s.takeDelayed req notify).1.segRst = s.segRst := by
  unfold State.takeDelayed; repeat' split
  all_goals simp

@[simp] theorem State.takeDelayed_segAttn (s : State) (req : DelayedReq) (notify : Bool) :
    (s.takeDelayed req notify).1.segAttn = s.segAttn := by
  unfold State.takeDelayed; repeat' split
  all_goals simp

@[simp] theorem State.takeDelayed_nodes (s : State) (req : DelayedReq) (notify : Bool) :
    (s.takeDelayed req notify).1.nodes = s.nodes := by
  unfold State.takeDelayed; repeat' split
  all_goals simp

@[simp] theorem State.takeDelayed_link (s : State) (req : DelayedReq) (notify : Bool) :
    (s.takeDelayed req notify).1.link = s.link := by
  unfold State.takeDelayed; repeat' split
  all_goals simp

@[simp] theorem State.takeDelayed_params (s : State) (req : DelayedReq) (notify : Bool) :
    (s.takeDelayed req notify).1.params = s.params := by
  unfold State.takeDelayed; repeat' split
  all_goals simp

@[simp] theorem State.takeDelayed_pending (s : State) (req : DelayedReq) (notify : Bool) :
    (s.takeDelayed req notify).1.pending = s.pending := by
  unfold State.takeDelayed; repeat' split
  all_goals simp

@[simp] theorem State.takeDelayed_pwq_nextNumber (s : State) (req : DelayedReq) (notify : Bool) :
    (s.takeDelayed req notify).1.pwq.nextNumber = s.pwq.nextNumber := by
  unfold State.takeDelayed; repeat' split
  all_goals simp

@[simp] theorem State.takeDelayed_pwq_entries (s : State) (req : DelayedReq) (notify : Bool) :
    (s.takeDelayed req notify).1.pwq.entries = s.pwq.entries := by
  unfold State.takeDelayed; repeat' split
  all_goals simp

@[simp] theorem State.takeDelayed_attn_holdoff (s : State) (req : DelayedReq) (notify : Bool) :
    (s.takeDelayed req notify).1.attn.holdoff = s.attn.holdoff := by
  unfold State.takeDelayed; repeat' split
  all_goals simp

@[simp] theorem State.takeDelayed_notices_queue (s : State) (req : DelayedReq) (notify : Bool) :
    (s.takeDelayed req notify).1.notices.queue = s.notices.queue := by
  unfold State.takeDelayed; repeat' split
  all_goals simp

@[simp] theorem State.takeDelayed_notices_next (s : State) (req : DelayedReq) (notify : Bool) :
    (s.takeDelayed req notify).1.notices.next = s.notices.next := by
  unfold State.takeDelayed; repeat' split
  all_goals simp

@[simp] theorem State.takeDelayed_notices_lostFaults (s : State) (req : DelayedReq) (notify : Bool) :
    (s.takeDelayed req notify).1.notices.lostFaults = s.notices.lostFaults := by
  unfold State.takeDelayed; repeat' split
  all_goals simp

@[simp] theorem State.takeDelayed_notices_resend (s : State) (req : DelayedReq) (notify : Bool) :
    (s.takeDelayed req notify).1.notices.resend = s.notices.resend := by
  unfold State.takeDelayed; repeat' split
  all_goals simp

/-! ### cancel -/

@[simp] theorem State.cancel_held (s : State) (i : SlotId) : (s.cancel i).1.held = s.held := by
  unfold State.cancel; repeat' split
  all_goals simp

@[simp] theorem State.cancel_pwq (s : State) (i : SlotId) : (s.cancel i).1.pwq = s.pwq := by
  unfold State.cancel; repeat' split
  all_goals simp

@[simp] theorem State.cancel_sched (s : State) (i : SlotId) : (s.cancel i).1.sched = s.sched := by
  unfold State.cancel; repeat' split
  all_goals simp

@[simp] theorem State.cancel_engine (s : State) (i : SlotId) : (s.cancel i).1.engine = s.engine := by
  unfold State.cancel; repeat' split
  all_goals simp

@[simp] theorem State.cancel_seg (s : State) (i : SlotId) : (s.cancel i).1.seg = s.seg := by
  unfold State.cancel; repeat' split
  all_goals simp

@[simp] theorem State.cancel_segRst (s : State) (i : SlotId) : (s.cancel i).1.segRst = s.segRst := by
  unfold State.cancel; repeat' split
  all_goals simp

@[simp] theorem State.cancel_segAttn (s : State) (i : SlotId) : (s.cancel i).1.segAttn = s.segAttn := by
  unfold State.cancel; repeat' split
  all_goals simp

@[simp] theorem State.cancel_nodes (s : State) (i : SlotId) : (s.cancel i).1.nodes = s.nodes := by
  unfold State.cancel; repeat' split
  all_goals simp

@[simp] theorem State.cancel_attn (s : State) (i : SlotId) : (s.cancel i).1.attn = s.attn := by
  unfold State.cancel; repeat' split
  all_goals simp

@[simp] theorem State.cancel_link (s : State) (i : SlotId) : (s.cancel i).1.link = s.link := by
  unfold State.cancel; repeat' split
  all_goals simp

@[simp] theorem State.cancel_params (s : State) (i : SlotId) : (s.cancel i).1.params = s.params := by
  unfold State.cancel; repeat' split
  all_goals simp

@[simp] theorem State.cancel_counters (s : State) (i : SlotId) : (s.cancel i).1.counters = s.counters := by
  unfold State.cancel; repeat' split
  all_goals simp

@[simp] theorem State.cancel_pending (s : State) (i : SlotId) : (s.cancel i).1.pending = s.pending := by
  unfold State.cancel; repeat' split
  all_goals simp

@[simp] theorem State.cancel_notices_queue (s : State) (i : SlotId) :
    (s.cancel i).1.notices.queue = s.notices.queue := by
  unfold State.cancel; repeat' split
  all_goals simp

@[simp] theorem State.cancel_notices_next (s : State) (i : SlotId) : (s.cancel i).1.notices.next = s.notices.next := by
  unfold State.cancel; repeat' split
  all_goals simp

@[simp] theorem State.cancel_notices_lostFaults (s : State) (i : SlotId) :
    (s.cancel i).1.notices.lostFaults = s.notices.lostFaults := by
  unfold State.cancel; repeat' split
  all_goals simp

@[simp] theorem State.cancel_notices_resend (s : State) (i : SlotId) :
    (s.cancel i).1.notices.resend = s.notices.resend := by
  unfold State.cancel; repeat' split
  all_goals simp

/-! ### acceptWrite -/

@[simp] theorem State.acceptWrite_held (s : State) (t : Option NodeId) (addr : Half) (data : List Byte) (seq : Byte) :
    (s.acceptWrite t addr data seq).1.held = s.held := by
  unfold State.acceptWrite; simp only; split <;> simp [Pwq.append]

@[simp] theorem State.acceptWrite_seg (s : State) (t : Option NodeId) (addr : Half) (data : List Byte) (seq : Byte) :
    (s.acceptWrite t addr data seq).1.seg = s.seg := by
  unfold State.acceptWrite; simp only; split <;> simp [Pwq.append]

@[simp] theorem State.acceptWrite_segRst (s : State) (t : Option NodeId) (addr : Half) (data : List Byte) (seq : Byte) :
    (s.acceptWrite t addr data seq).1.segRst = s.segRst := by
  unfold State.acceptWrite; simp only; split <;> simp [Pwq.append]

@[simp] theorem State.acceptWrite_segAttn (s : State) (t : Option NodeId) (addr : Half) (data : List Byte)
    (seq : Byte) : (s.acceptWrite t addr data seq).1.segAttn = s.segAttn := by
  unfold State.acceptWrite; simp only; split <;> simp [Pwq.append]

@[simp] theorem State.acceptWrite_nodes (s : State) (t : Option NodeId) (addr : Half) (data : List Byte) (seq : Byte) :
    (s.acceptWrite t addr data seq).1.nodes = s.nodes := by
  unfold State.acceptWrite; simp only; split <;> simp [Pwq.append]

@[simp] theorem State.acceptWrite_link (s : State) (t : Option NodeId) (addr : Half) (data : List Byte) (seq : Byte) :
    (s.acceptWrite t addr data seq).1.link = s.link := by
  unfold State.acceptWrite; simp only; split <;> simp [Pwq.append]

@[simp] theorem State.acceptWrite_params (s : State) (t : Option NodeId) (addr : Half) (data : List Byte) (seq : Byte) :
    (s.acceptWrite t addr data seq).1.params = s.params := by
  unfold State.acceptWrite; simp only; split <;> simp [Pwq.append]

@[simp] theorem State.acceptWrite_pending (s : State) (t : Option NodeId) (addr : Half) (data : List Byte)
    (seq : Byte) : (s.acceptWrite t addr data seq).1.pending = s.pending := by
  unfold State.acceptWrite; simp only; split <;> simp [Pwq.append]

@[simp] theorem State.acceptWrite_attn_holdoff (s : State) (t : Option NodeId) (addr : Half) (data : List Byte)
    (seq : Byte) : (s.acceptWrite t addr data seq).1.attn.holdoff = s.attn.holdoff := by
  unfold State.acceptWrite; simp only; split <;> simp [Pwq.append]

@[simp] theorem State.acceptWrite_pwq_lossCount (s : State) (t : Option NodeId) (addr : Half) (data : List Byte)
    (seq : Byte) : (s.acceptWrite t addr data seq).1.pwq.lossCount = s.pwq.lossCount := by
  unfold State.acceptWrite; simp only; split <;> simp [Pwq.append]

@[simp] theorem State.acceptWrite_notices_queue (s : State) (t : Option NodeId) (addr : Half) (data : List Byte)
    (seq : Byte) : (s.acceptWrite t addr data seq).1.notices.queue = s.notices.queue := by
  unfold State.acceptWrite; simp only; split <;> simp [Pwq.append]

@[simp] theorem State.acceptWrite_notices_next (s : State) (t : Option NodeId) (addr : Half) (data : List Byte)
    (seq : Byte) : (s.acceptWrite t addr data seq).1.notices.next = s.notices.next := by
  unfold State.acceptWrite; simp only; split <;> simp [Pwq.append]

@[simp] theorem State.acceptWrite_notices_lostFaults (s : State) (t : Option NodeId) (addr : Half) (data : List Byte)
    (seq : Byte) : (s.acceptWrite t addr data seq).1.notices.lostFaults = s.notices.lostFaults := by
  unfold State.acceptWrite; simp only; split <;> simp [Pwq.append]

@[simp] theorem State.acceptWrite_notices_resend (s : State) (t : Option NodeId) (addr : Half) (data : List Byte)
    (seq : Byte) : (s.acceptWrite t addr data seq).1.notices.resend = s.notices.resend := by
  unfold State.acceptWrite; simp only; split <;> simp [Pwq.append]

/-! ### handOver -/

@[simp] theorem State.handOver_held (s : State) (n : NodeId) (addr : Half) (data : List Byte) :
    (s.handOver n addr data).1.held = s.held := by
  unfold State.handOver; split <;> simp

@[simp] theorem State.handOver_seg (s : State) (n : NodeId) (addr : Half) (data : List Byte) :
    (s.handOver n addr data).1.seg = s.seg := by
  unfold State.handOver; split <;> simp

@[simp] theorem State.handOver_segRst (s : State) (n : NodeId) (addr : Half) (data : List Byte) :
    (s.handOver n addr data).1.segRst = s.segRst := by
  unfold State.handOver; split <;> simp

@[simp] theorem State.handOver_segAttn (s : State) (n : NodeId) (addr : Half) (data : List Byte) :
    (s.handOver n addr data).1.segAttn = s.segAttn := by
  unfold State.handOver; split <;> simp

@[simp] theorem State.handOver_nodes (s : State) (n : NodeId) (addr : Half) (data : List Byte) :
    (s.handOver n addr data).1.nodes = s.nodes := by
  unfold State.handOver; split <;> simp

@[simp] theorem State.handOver_link (s : State) (n : NodeId) (addr : Half) (data : List Byte) :
    (s.handOver n addr data).1.link = s.link := by
  unfold State.handOver; split <;> simp

@[simp] theorem State.handOver_params (s : State) (n : NodeId) (addr : Half) (data : List Byte) :
    (s.handOver n addr data).1.params = s.params := by
  unfold State.handOver; split <;> simp

@[simp] theorem State.handOver_pending (s : State) (n : NodeId) (addr : Half) (data : List Byte) :
    (s.handOver n addr data).1.pending = s.pending := by
  unfold State.handOver; split <;> simp

@[simp] theorem State.handOver_attn_holdoff (s : State) (n : NodeId) (addr : Half) (data : List Byte) :
    (s.handOver n addr data).1.attn.holdoff = s.attn.holdoff := by
  unfold State.handOver; split <;> simp

@[simp] theorem State.handOver_notices_queue (s : State) (n : NodeId) (addr : Half) (data : List Byte) :
    (s.handOver n addr data).1.notices.queue = s.notices.queue := by
  unfold State.handOver; split <;> simp

@[simp] theorem State.handOver_notices_next (s : State) (n : NodeId) (addr : Half) (data : List Byte) :
    (s.handOver n addr data).1.notices.next = s.notices.next := by
  unfold State.handOver; split <;> simp

@[simp] theorem State.handOver_notices_lostFaults (s : State) (n : NodeId) (addr : Half) (data : List Byte) :
    (s.handOver n addr data).1.notices.lostFaults = s.notices.lostFaults := by
  unfold State.handOver; split <;> simp

@[simp] theorem State.handOver_notices_resend (s : State) (n : NodeId) (addr : Half) (data : List Byte) :
    (s.handOver n addr data).1.notices.resend = s.notices.resend := by
  unfold State.handOver; split <;> simp

/-! ### postWrite -/

@[simp] theorem State.postWrite_held (s : State) (seq : Byte) (a : NodeId × Half × List Byte) :
    (s.postWrite seq a).1.held = s.held := by
  unfold State.postWrite; repeat' split
  all_goals simp

@[simp] theorem State.postWrite_seg (s : State) (seq : Byte) (a : NodeId × Half × List Byte) :
    (s.postWrite seq a).1.seg = s.seg := by
  unfold State.postWrite; repeat' split
  all_goals simp

@[simp] theorem State.postWrite_segRst (s : State) (seq : Byte) (a : NodeId × Half × List Byte) :
    (s.postWrite seq a).1.segRst = s.segRst := by
  unfold State.postWrite; repeat' split
  all_goals simp

@[simp] theorem State.postWrite_segAttn (s : State) (seq : Byte) (a : NodeId × Half × List Byte) :
    (s.postWrite seq a).1.segAttn = s.segAttn := by
  unfold State.postWrite; repeat' split
  all_goals simp

@[simp] theorem State.postWrite_nodes (s : State) (seq : Byte) (a : NodeId × Half × List Byte) :
    (s.postWrite seq a).1.nodes = s.nodes := by
  unfold State.postWrite; repeat' split
  all_goals simp

@[simp] theorem State.postWrite_link (s : State) (seq : Byte) (a : NodeId × Half × List Byte) :
    (s.postWrite seq a).1.link = s.link := by
  unfold State.postWrite; repeat' split
  all_goals simp

@[simp] theorem State.postWrite_params (s : State) (seq : Byte) (a : NodeId × Half × List Byte) :
    (s.postWrite seq a).1.params = s.params := by
  unfold State.postWrite; repeat' split
  all_goals simp

@[simp] theorem State.postWrite_pending (s : State) (seq : Byte) (a : NodeId × Half × List Byte) :
    (s.postWrite seq a).1.pending = s.pending := by
  unfold State.postWrite; repeat' split
  all_goals simp

@[simp] theorem State.postWrite_attn_holdoff (s : State) (seq : Byte) (a : NodeId × Half × List Byte) :
    (s.postWrite seq a).1.attn.holdoff = s.attn.holdoff := by
  unfold State.postWrite; repeat' split
  all_goals simp

@[simp] theorem State.postWrite_notices_queue (s : State) (seq : Byte) (a : NodeId × Half × List Byte) :
    (s.postWrite seq a).1.notices.queue = s.notices.queue := by
  unfold State.postWrite; repeat' split
  all_goals simp

@[simp] theorem State.postWrite_notices_next (s : State) (seq : Byte) (a : NodeId × Half × List Byte) :
    (s.postWrite seq a).1.notices.next = s.notices.next := by
  unfold State.postWrite; repeat' split
  all_goals simp

@[simp] theorem State.postWrite_notices_lostFaults (s : State) (seq : Byte) (a : NodeId × Half × List Byte) :
    (s.postWrite seq a).1.notices.lostFaults = s.notices.lostFaults := by
  unfold State.postWrite; repeat' split
  all_goals simp

@[simp] theorem State.postWrite_notices_resend (s : State) (seq : Byte) (a : NodeId × Half × List Byte) :
    (s.postWrite seq a).1.notices.resend = s.notices.resend := by
  unfold State.postWrite; repeat' split
  all_goals simp

/-! ### broadcastWrite -/

@[simp] theorem State.broadcastWrite_held (s : State) (seq : Byte) (a : Half × List Byte) :
    (s.broadcastWrite seq a).1.held = s.held := by
  unfold State.broadcastWrite; split <;> simp

@[simp] theorem State.broadcastWrite_seg (s : State) (seq : Byte) (a : Half × List Byte) :
    (s.broadcastWrite seq a).1.seg = s.seg := by
  unfold State.broadcastWrite; split <;> simp

@[simp] theorem State.broadcastWrite_segRst (s : State) (seq : Byte) (a : Half × List Byte) :
    (s.broadcastWrite seq a).1.segRst = s.segRst := by
  unfold State.broadcastWrite; split <;> simp

@[simp] theorem State.broadcastWrite_segAttn (s : State) (seq : Byte) (a : Half × List Byte) :
    (s.broadcastWrite seq a).1.segAttn = s.segAttn := by
  unfold State.broadcastWrite; split <;> simp

@[simp] theorem State.broadcastWrite_nodes (s : State) (seq : Byte) (a : Half × List Byte) :
    (s.broadcastWrite seq a).1.nodes = s.nodes := by
  unfold State.broadcastWrite; split <;> simp

@[simp] theorem State.broadcastWrite_link (s : State) (seq : Byte) (a : Half × List Byte) :
    (s.broadcastWrite seq a).1.link = s.link := by
  unfold State.broadcastWrite; split <;> simp

@[simp] theorem State.broadcastWrite_params (s : State) (seq : Byte) (a : Half × List Byte) :
    (s.broadcastWrite seq a).1.params = s.params := by
  unfold State.broadcastWrite; split <;> simp

@[simp] theorem State.broadcastWrite_pending (s : State) (seq : Byte) (a : Half × List Byte) :
    (s.broadcastWrite seq a).1.pending = s.pending := by
  unfold State.broadcastWrite; split <;> simp

@[simp] theorem State.broadcastWrite_attn_holdoff (s : State) (seq : Byte) (a : Half × List Byte) :
    (s.broadcastWrite seq a).1.attn.holdoff = s.attn.holdoff := by
  unfold State.broadcastWrite; split <;> simp

@[simp] theorem State.broadcastWrite_notices_queue (s : State) (seq : Byte) (a : Half × List Byte) :
    (s.broadcastWrite seq a).1.notices.queue = s.notices.queue := by
  unfold State.broadcastWrite; split <;> simp

@[simp] theorem State.broadcastWrite_notices_next (s : State) (seq : Byte) (a : Half × List Byte) :
    (s.broadcastWrite seq a).1.notices.next = s.notices.next := by
  unfold State.broadcastWrite; split <;> simp

@[simp] theorem State.broadcastWrite_notices_lostFaults (s : State) (seq : Byte) (a : Half × List Byte) :
    (s.broadcastWrite seq a).1.notices.lostFaults = s.notices.lostFaults := by
  unfold State.broadcastWrite; split <;> simp

@[simp] theorem State.broadcastWrite_notices_resend (s : State) (seq : Byte) (a : Half × List Byte) :
    (s.broadcastWrite seq a).1.notices.resend = s.notices.resend := by
  unfold State.broadcastWrite; split <;> simp

/-! ### removeNotices -/

@[simp] theorem State.removeNotices_held (s : State) (r : Nat) : (s.removeNotices r).held = s.held := by
  unfold State.removeNotices; simp only; split <;> simp

@[simp] theorem State.removeNotices_seg (s : State) (r : Nat) : (s.removeNotices r).seg = s.seg := by
  unfold State.removeNotices; simp only; split <;> simp

@[simp] theorem State.removeNotices_segRst (s : State) (r : Nat) : (s.removeNotices r).segRst = s.segRst := by
  unfold State.removeNotices; simp only; split <;> simp

@[simp] theorem State.removeNotices_segAttn (s : State) (r : Nat) : (s.removeNotices r).segAttn = s.segAttn := by
  unfold State.removeNotices; simp only; split <;> simp

@[simp] theorem State.removeNotices_nodes (s : State) (r : Nat) : (s.removeNotices r).nodes = s.nodes := by
  unfold State.removeNotices; simp only; split <;> simp

@[simp] theorem State.removeNotices_link (s : State) (r : Nat) : (s.removeNotices r).link = s.link := by
  unfold State.removeNotices; simp only; split <;> simp

@[simp] theorem State.removeNotices_params (s : State) (r : Nat) : (s.removeNotices r).params = s.params := by
  unfold State.removeNotices; simp only; split <;> simp

@[simp] theorem State.removeNotices_pending (s : State) (r : Nat) : (s.removeNotices r).pending = s.pending := by
  unfold State.removeNotices; simp only; split <;> simp

@[simp] theorem State.removeNotices_pwq_entries (s : State) (r : Nat) :
    (s.removeNotices r).pwq.entries = s.pwq.entries := by
  unfold State.removeNotices; simp only; split <;> simp

@[simp] theorem State.removeNotices_pwq_nextNumber (s : State) (r : Nat) :
    (s.removeNotices r).pwq.nextNumber = s.pwq.nextNumber := by
  unfold State.removeNotices; simp only; split <;> simp

@[simp] theorem State.removeNotices_pwq_lossCount (s : State) (r : Nat) :
    (s.removeNotices r).pwq.lossCount = s.pwq.lossCount := by
  unfold State.removeNotices; simp only; split <;> simp

@[simp] theorem State.removeNotices_attn_holdoff (s : State) (r : Nat) :
    (s.removeNotices r).attn.holdoff = s.attn.holdoff := by
  unfold State.removeNotices; simp only; split <;> simp

@[simp] theorem State.removeNotices_notices_next (s : State) (r : Nat) :
    (s.removeNotices r).notices.next = s.notices.next := by
  unfold State.removeNotices; simp only; split <;> simp

@[simp] theorem State.removeNotices_notices_lostFaults (s : State) (r : Nat) :
    (s.removeNotices r).notices.lostFaults = s.notices.lostFaults := by
  unfold State.removeNotices; simp only; split <;> simp

/-! ### acknowledge -/

@[simp] theorem State.acknowledge_held (s : State) (n : Half) : (s.acknowledge n).1.held = s.held := by
  unfold State.acknowledge; simp only; repeat' split
  all_goals simp

@[simp] theorem State.acknowledge_seg (s : State) (n : Half) : (s.acknowledge n).1.seg = s.seg := by
  unfold State.acknowledge; simp only; repeat' split
  all_goals simp

@[simp] theorem State.acknowledge_segRst (s : State) (n : Half) : (s.acknowledge n).1.segRst = s.segRst := by
  unfold State.acknowledge; simp only; repeat' split
  all_goals simp

@[simp] theorem State.acknowledge_segAttn (s : State) (n : Half) : (s.acknowledge n).1.segAttn = s.segAttn := by
  unfold State.acknowledge; simp only; repeat' split
  all_goals simp

@[simp] theorem State.acknowledge_nodes (s : State) (n : Half) : (s.acknowledge n).1.nodes = s.nodes := by
  unfold State.acknowledge; simp only; repeat' split
  all_goals simp

@[simp] theorem State.acknowledge_link (s : State) (n : Half) : (s.acknowledge n).1.link = s.link := by
  unfold State.acknowledge; simp only; repeat' split
  all_goals simp

@[simp] theorem State.acknowledge_params (s : State) (n : Half) : (s.acknowledge n).1.params = s.params := by
  unfold State.acknowledge; simp only; repeat' split
  all_goals simp

@[simp] theorem State.acknowledge_pending (s : State) (n : Half) : (s.acknowledge n).1.pending = s.pending := by
  unfold State.acknowledge; simp only; repeat' split
  all_goals simp

@[simp] theorem State.acknowledge_pwq_entries (s : State) (n : Half) :
    (s.acknowledge n).1.pwq.entries = s.pwq.entries := by
  unfold State.acknowledge; simp only; repeat' split
  all_goals simp

@[simp] theorem State.acknowledge_pwq_nextNumber (s : State) (n : Half) :
    (s.acknowledge n).1.pwq.nextNumber = s.pwq.nextNumber := by
  unfold State.acknowledge; simp only; repeat' split
  all_goals simp

@[simp] theorem State.acknowledge_pwq_lossCount (s : State) (n : Half) :
    (s.acknowledge n).1.pwq.lossCount = s.pwq.lossCount := by
  unfold State.acknowledge; simp only; repeat' split
  all_goals simp

@[simp] theorem State.acknowledge_attn_holdoff (s : State) (n : Half) :
    (s.acknowledge n).1.attn.holdoff = s.attn.holdoff := by
  unfold State.acknowledge; simp only; repeat' split
  all_goals simp

@[simp] theorem State.acknowledge_notices_next (s : State) (n : Half) :
    (s.acknowledge n).1.notices.next = s.notices.next := by
  unfold State.acknowledge; simp only; repeat' split
  all_goals simp

@[simp] theorem State.acknowledge_notices_lostFaults (s : State) (n : Half) :
    (s.acknowledge n).1.notices.lostFaults = s.notices.lostFaults := by
  unfold State.acknowledge; simp only; repeat' split
  all_goals simp

/-! ### windowEnds -/

@[simp] theorem State.windowEnds_held (s : State) (t : Transaction) : (s.windowEnds t).held = s.held := by
  unfold State.windowEnds; split <;> simp

@[simp] theorem State.windowEnds_seg (s : State) (t : Transaction) : (s.windowEnds t).seg = s.seg := by
  unfold State.windowEnds; split <;> simp

@[simp] theorem State.windowEnds_segRst (s : State) (t : Transaction) : (s.windowEnds t).segRst = s.segRst := by
  unfold State.windowEnds; split <;> simp

@[simp] theorem State.windowEnds_segAttn (s : State) (t : Transaction) : (s.windowEnds t).segAttn = s.segAttn := by
  unfold State.windowEnds; split <;> simp

@[simp] theorem State.windowEnds_nodes (s : State) (t : Transaction) : (s.windowEnds t).nodes = s.nodes := by
  unfold State.windowEnds; split <;> simp

@[simp] theorem State.windowEnds_link (s : State) (t : Transaction) : (s.windowEnds t).link = s.link := by
  unfold State.windowEnds; split <;> simp

@[simp] theorem State.windowEnds_params (s : State) (t : Transaction) : (s.windowEnds t).params = s.params := by
  unfold State.windowEnds; split <;> simp

@[simp] theorem State.windowEnds_pending (s : State) (t : Transaction) : (s.windowEnds t).pending = s.pending := by
  unfold State.windowEnds; split <;> simp

@[simp] theorem State.windowEnds_pwq_nextNumber (s : State) (t : Transaction) :
    (s.windowEnds t).pwq.nextNumber = s.pwq.nextNumber := by
  unfold State.windowEnds; split <;> simp

@[simp] theorem State.windowEnds_notices_resend (s : State) (t : Transaction) :
    (s.windowEnds t).notices.resend = s.notices.resend := by
  unfold State.windowEnds; split <;> simp

@[simp] theorem State.windowEnds_attn_holdoff (s : State) (t : Transaction) :
    (s.windowEnds t).attn.holdoff = s.attn.holdoff := by
  unfold State.windowEnds; split <;> simp

/-! ### trainEnds -/

@[simp] theorem State.trainEnds_held (s : State) (starts : List TrainStart) : (s.trainEnds starts).held = s.held := by
  simp [State.trainEnds]

@[simp] theorem State.trainEnds_seg (s : State) (starts : List TrainStart) : (s.trainEnds starts).seg = s.seg := by
  simp [State.trainEnds]

@[simp] theorem State.trainEnds_segRst (s : State) (starts : List TrainStart) :
    (s.trainEnds starts).segRst = s.segRst := by
  simp [State.trainEnds]

@[simp] theorem State.trainEnds_segAttn (s : State) (starts : List TrainStart) :
    (s.trainEnds starts).segAttn = s.segAttn := by
  simp [State.trainEnds]

@[simp] theorem State.trainEnds_link (s : State) (starts : List TrainStart) : (s.trainEnds starts).link = s.link := by
  simp [State.trainEnds]

@[simp] theorem State.trainEnds_params (s : State) (starts : List TrainStart) :
    (s.trainEnds starts).params = s.params := by
  simp [State.trainEnds]

@[simp] theorem State.trainEnds_pending (s : State) (starts : List TrainStart) :
    (s.trainEnds starts).pending = s.pending := by
  simp [State.trainEnds]

@[simp] theorem State.trainEnds_pwq_nextNumber (s : State) (starts : List TrainStart) :
    (s.trainEnds starts).pwq.nextNumber = s.pwq.nextNumber := by
  simp [State.trainEnds]

@[simp] theorem State.trainEnds_pwq_lossCount (s : State) (starts : List TrainStart) :
    (s.trainEnds starts).pwq.lossCount = s.pwq.lossCount := by
  simp [State.trainEnds]

@[simp] theorem State.trainEnds_pwq_entries (s : State) (starts : List TrainStart) :
    (s.trainEnds starts).pwq.entries = s.pwq.entries := by
  simp [State.trainEnds]

@[simp] theorem State.trainEnds_notices_queue (s : State) (starts : List TrainStart) :
    (s.trainEnds starts).notices.queue = s.notices.queue := by
  simp [State.trainEnds]

@[simp] theorem State.trainEnds_notices_next (s : State) (starts : List TrainStart) :
    (s.trainEnds starts).notices.next = s.notices.next := by
  simp [State.trainEnds]

@[simp] theorem State.trainEnds_notices_lostFaults (s : State) (starts : List TrainStart) :
    (s.trainEnds starts).notices.lostFaults = s.notices.lostFaults := by
  simp [State.trainEnds]

@[simp] theorem State.trainEnds_notices_resend (s : State) (starts : List TrainStart) :
    (s.trainEnds starts).notices.resend = s.notices.resend := by
  simp [State.trainEnds]

/-! ### headGapEnds -/

@[simp] theorem State.headGapEnds_held (s : State) : s.headGapEnds.held = s.held := by
  unfold State.headGapEnds; repeat' split
  all_goals simp

@[simp] theorem State.headGapEnds_seg (s : State) : s.headGapEnds.seg = s.seg := by
  unfold State.headGapEnds; repeat' split
  all_goals simp

@[simp] theorem State.headGapEnds_segRst (s : State) : s.headGapEnds.segRst = s.segRst := by
  unfold State.headGapEnds; repeat' split
  all_goals simp

@[simp] theorem State.headGapEnds_segAttn (s : State) : s.headGapEnds.segAttn = s.segAttn := by
  unfold State.headGapEnds; repeat' split
  all_goals simp

@[simp] theorem State.headGapEnds_nodes (s : State) : s.headGapEnds.nodes = s.nodes := by
  unfold State.headGapEnds; repeat' split
  all_goals simp

@[simp] theorem State.headGapEnds_link (s : State) : s.headGapEnds.link = s.link := by
  unfold State.headGapEnds; repeat' split
  all_goals simp

@[simp] theorem State.headGapEnds_params (s : State) : s.headGapEnds.params = s.params := by
  unfold State.headGapEnds; repeat' split
  all_goals simp

@[simp] theorem State.headGapEnds_pending (s : State) : s.headGapEnds.pending = s.pending := by
  unfold State.headGapEnds; repeat' split
  all_goals simp

@[simp] theorem State.headGapEnds_pwq_nextNumber (s : State) : s.headGapEnds.pwq.nextNumber = s.pwq.nextNumber := by
  unfold State.headGapEnds; repeat' split
  all_goals simp

@[simp] theorem State.headGapEnds_notices_resend (s : State) : s.headGapEnds.notices.resend = s.notices.resend := by
  unfold State.headGapEnds; repeat' split
  all_goals simp

@[simp] theorem State.headGapEnds_attn_holdoff (s : State) : s.headGapEnds.attn.holdoff = s.attn.holdoff := by
  unfold State.headGapEnds; repeat' split
  all_goals simp

/-! ### slotGapEnds -/

@[simp] theorem State.slotGapEnds_held (s : State) (i : SlotId) : (s.slotGapEnds i).held = s.held := by
  unfold State.slotGapEnds; repeat' split
  all_goals simp

@[simp] theorem State.slotGapEnds_seg (s : State) (i : SlotId) : (s.slotGapEnds i).seg = s.seg := by
  unfold State.slotGapEnds; repeat' split
  all_goals simp

@[simp] theorem State.slotGapEnds_segRst (s : State) (i : SlotId) : (s.slotGapEnds i).segRst = s.segRst := by
  unfold State.slotGapEnds; repeat' split
  all_goals simp

@[simp] theorem State.slotGapEnds_segAttn (s : State) (i : SlotId) : (s.slotGapEnds i).segAttn = s.segAttn := by
  unfold State.slotGapEnds; repeat' split
  all_goals simp

@[simp] theorem State.slotGapEnds_nodes (s : State) (i : SlotId) : (s.slotGapEnds i).nodes = s.nodes := by
  unfold State.slotGapEnds; repeat' split
  all_goals simp

@[simp] theorem State.slotGapEnds_link (s : State) (i : SlotId) : (s.slotGapEnds i).link = s.link := by
  unfold State.slotGapEnds; repeat' split
  all_goals simp

@[simp] theorem State.slotGapEnds_params (s : State) (i : SlotId) : (s.slotGapEnds i).params = s.params := by
  unfold State.slotGapEnds; repeat' split
  all_goals simp

@[simp] theorem State.slotGapEnds_pending (s : State) (i : SlotId) : (s.slotGapEnds i).pending = s.pending := by
  unfold State.slotGapEnds; repeat' split
  all_goals simp

@[simp] theorem State.slotGapEnds_pwq_nextNumber (s : State) (i : SlotId) :
    (s.slotGapEnds i).pwq.nextNumber = s.pwq.nextNumber := by
  unfold State.slotGapEnds; repeat' split
  all_goals simp

@[simp] theorem State.slotGapEnds_pwq_lossCount (s : State) (i : SlotId) :
    (s.slotGapEnds i).pwq.lossCount = s.pwq.lossCount := by
  unfold State.slotGapEnds; repeat' split
  all_goals simp

@[simp] theorem State.slotGapEnds_pwq_entries (s : State) (i : SlotId) :
    (s.slotGapEnds i).pwq.entries = s.pwq.entries := by
  unfold State.slotGapEnds; repeat' split
  all_goals simp

@[simp] theorem State.slotGapEnds_attn_holdoff (s : State) (i : SlotId) :
    (s.slotGapEnds i).attn.holdoff = s.attn.holdoff := by
  unfold State.slotGapEnds; repeat' split
  all_goals simp

@[simp] theorem State.slotGapEnds_notices_queue (s : State) (i : SlotId) :
    (s.slotGapEnds i).notices.queue = s.notices.queue := by
  unfold State.slotGapEnds; repeat' split
  all_goals simp

@[simp] theorem State.slotGapEnds_notices_next (s : State) (i : SlotId) :
    (s.slotGapEnds i).notices.next = s.notices.next := by
  unfold State.slotGapEnds; repeat' split
  all_goals simp

@[simp] theorem State.slotGapEnds_notices_lostFaults (s : State) (i : SlotId) :
    (s.slotGapEnds i).notices.lostFaults = s.notices.lostFaults := by
  unfold State.slotGapEnds; repeat' split
  all_goals simp

@[simp] theorem State.slotGapEnds_notices_resend (s : State) (i : SlotId) :
    (s.slotGapEnds i).notices.resend = s.notices.resend := by
  unfold State.slotGapEnds; repeat' split
  all_goals simp

end Sys2Proof.Machine
end

