-- ==== Sys2Proof/Laws/Requests.lean ====
section
/-!
SUPPORT. The request formats read back, field by field, and the execution of a request row said once.
-/

namespace Sys2Proof.Machine

open Sys2Proof.Safety

/-! ### Fields -/

theorem halfBytes_eq (a : Half) : halfBytes a = [a.extractLsb' 8 8, a.extractLsb' 0 8] := rfl

/-- Two bytes sent are the number they came from. -/
theorem half_split (a : Half) : half (a.extractLsb' 8 8) (a.extractLsb' 0 8) = a := by
  unfold half
  apply BitVec.eq_of_getLsbD_eq
  intro i hi
  simp only [BitVec.getLsbD_append, BitVec.getLsbD_extractLsb']
  by_cases h : i < 8
  · simp [h]
  · have h8 : i - 8 < 8 := by omega
    have h9 : 8 + (i - 8) = i := by omega
    simp [h, h8, h9]

theorem half_toNat (a b : Byte) : (half a b).toNat = a.toNat * 256 + b.toNat := by
  unfold half
  rw [BitVec.toNat_append, Nat.shiftLeft_eq, Nat.mul_comm, ← Nat.two_pow_add_eq_or_of_lt b.isLt]

theorem nodeField_nodeByte (n : NodeId) : nodeField (nodeByte n) = some n := by revert n; decide

theorem flagField_flagByte (b : Bool) : flagField (flagByte b) = some b := by revert b; decide

theorem slotField_slotByte (i : SlotId) : slotField (slotByte i) = some i := by revert i; decide

theorem sizeField_bytes (z : PacketSize) : sizeField (byte z.bytes) = some z := by cases z <;> decide

theorem paramOf_code (p : ParamId) : paramOf p.code = some p := by cases p <;> decide

theorem byte_toNat {k : Nat} (h : k < 256) : (byte k).toNat = k := by
  unfold byte; rw [BitVec.toNat_ofNat]; omega

theorem accessOk_iff (a : Half) (n most : Nat) :
    accessOk a n most = true ↔ 1 ≤ n ∧ n ≤ most ∧ a.toNat + n ≤ 65536 := by
  simp [accessOk, and_assoc]

/-! ### The execution of a request row -/

/-- Out of reset an event acts, and then the arbiter decides. -/
theorem State.event_of_running {s : State} (h : s.held = none) (act : State → State) :
    s.event act = (act s).arbitrate := by
  unfold State.event; simp [h]

theorem State.takeFrame_of_executes {s : State} {seq type : Byte} {p : List Byte} (h : Executes s seq type p)
    (f : State → State × Answer) : s.takeFrame seq type p f = ((f s).1).giveAnswer seq type (f s).2 := by
  unfold State.takeFrame; rw [if_pos ⟨h.2.1, h.2.2.1⟩, h.2.2.2]

/-- A request whose operands parse is answered by its owner. -/
theorem request_parsed {α : Type} {s : State} {seq type : Byte} {p : List Byte} (h : Executes s seq type p)
    {operands : Option α} (own : α → State → State × Answer) {a : α} (ho : operands = some a) :
    s.event (fun t => t.takeFrame seq type p (State.validated operands own)) =
      answered (own a s).1 seq type (own a s).2 := by
  rw [State.event_of_running h.1, State.takeFrame_of_executes h]; subst ho; rfl

/-- A request whose operands do not parse is answered BAD_FIELD. -/
theorem request_unparsed {α : Type} {s : State} {seq type : Byte} {p : List Byte} (h : Executes s seq type p)
    {operands : Option α} (own : α → State → State × Answer) (ho : operands = none) :
    s.event (fun t => t.takeFrame seq type p (State.validated operands own)) =
      answered s seq type (.refused .badField) := by
  rw [State.event_of_running h.1, State.takeFrame_of_executes h]; subst ho; rfl

/-! ### The table's searches -/

theorem State.liveMatch_eq_none {s : State} {req : DelayedReq} (h : NoLiveMatch s req) : s.liveMatch req = none := by
  unfold State.liveMatch
  rw [List.find?_eq_none]
  intro j _ hj
  unfold State.matchesKey at hj
  cases hs : s.slot j with
  | none => rw [hs] at hj; cases hj
  | some sl =>
    rw [hs] at hj
    simp only [Bool.and_eq_true, beq_iff_eq] at hj
    exact h j sl hs hj.1 hj.2

theorem State.liveMatch_eq_some {s : State} {req : DelayedReq} {i : SlotId} {sl : Slot} (hk : KeysDistinct s.drt)
    (hs : s.slot i = some sl) (hl : sl.state.live = true) (hr : sl.req = req) : s.liveMatch req = some i := by
  unfold State.liveMatch
  have hm : s.matchesKey req i = true := by unfold State.matchesKey; rw [hs]; simp [hl, hr]
  cases hf : allSlots.find? (s.matchesKey req) with
  | none => exact absurd hm (by simpa using List.find?_eq_none.mp hf i (List.mem_finRange i))
  | some j =>
    have hj := List.find?_some hf
    unfold State.matchesKey at hj
    cases ht : s.slot j with
    | none => rw [ht] at hj; cases hj
    | some r =>
      rw [ht] at hj
      simp only [Bool.and_eq_true, beq_iff_eq] at hj
      rw [hk j i r sl ht hs hj.1 hl (hj.2.trans hr.symm)]

theorem State.lowestFree_eq {s : State} {i : SlotId} (h : LowestFree s i) : s.lowestFree = some i := by
  unfold State.lowestFree
  rw [List.find?_eq_some_iff_append]
  refine ⟨by simp [h.1], ?_⟩
  refine ⟨allSlots.take i.val, allSlots.drop (i.val + 1), ?_, ?_⟩
  · have split : ∀ i : SlotId, allSlots = allSlots.take i.val ++ i :: allSlots.drop (i.val + 1) := by decide
    exact split i
  · intro j hj
    have hlt : j < i := by
      have : ∀ i j : SlotId, j ∈ allSlots.take i.val → j < i := by decide
      exact this i j hj
    have := h.2 j hlt
    cases hs : s.slot j with
    | none => rw [hs] at this; cases this
    | some _ => rfl

theorem State.lowestFree_eq_none {s : State} (h : ∀ j : SlotId, (s.slot j).isSome = true) : s.lowestFree = none := by
  unfold State.lowestFree
  rw [List.find?_eq_none]
  intro j _ hj
  have := h j
  cases hs : s.slot j with
  | none => rw [hs] at this; cases this
  | some _ => rw [hs] at hj; cases hj

end Sys2Proof.Machine
end

