-- ==== Sys2Proof/Laws/Link.lean ====
section
/-!
SUPPORT. The buffer's places, the outbound arbiter and the framer, each said once on lists split at the place, notice or
character they act on.
-/

namespace Sys2Proof.Machine

open Sys2Proof.Safety

/-! ### Places (R164, R166, R169) -/

theorem find_waiting {before after : List Place} {f : Frame} (h : ∀ p ∈ before, p.state ≠ .waiting) :
    (before ++ { frame := f, state := .waiting } :: after).find? Place.isWaiting =
      some { frame := f, state := .waiting } := by
  induction before with
  | nil => rfl
  | cons p rest ih =>
    have hp : p.isWaiting = false := by simpa [Place.isWaiting] using h p (by simp)
    simp only [List.cons_append, List.find?_cons, hp]
    exact ih fun q hq => h q (by simp [hq])

theorem answerFirst_split {before after : List Place} {f : Frame} {a : StoredAnswer}
    (h : ∀ p ∈ before, p.state ≠ .waiting) :
    answerFirst a (before ++ { frame := f, state := .waiting } :: after) =
      before ++ { frame := f, state := .answered a } :: after := by
  induction before with
  | nil => rfl
  | cons p rest ih =>
    have hp : p.isWaiting = false := by simpa [Place.isWaiting] using h p (by simp)
    simp [answerFirst, hp, ih fun q hq => h q (by simp [hq])]

theorem sendFirstAnswer_split {before after : List Place} {f : Frame} {a : StoredAnswer}
    (h : ∀ p ∈ before, ∀ b : StoredAnswer, p.state ≠ .answered b) :
    sendFirstAnswer (before ++ { frame := f, state := .answered a } :: after) =
      some (a, before ++ { frame := f, state := .sending a } :: after) := by
  induction before with
  | nil => rfl
  | cons p rest ih =>
    have hp := h p (by simp)
    have ih := ih fun q hq => h q (by simp [hq])
    simp only [List.cons_append, sendFirstAnswer]
    cases hs : p.state with
    | answered b => exact absurd hs (hp b)
    | waiting => simp [ih]
    | sending b => simp [ih]

theorem sendFirstAnswer_none {l : List Place} (h : ∀ p ∈ l, ∀ b : StoredAnswer, p.state ≠ .answered b) :
    sendFirstAnswer l = none := by
  induction l with
  | nil => rfl
  | cons p rest ih =>
    have hp := h p (by simp)
    have ih := ih fun q hq => h q (by simp [hq])
    simp only [sendFirstAnswer]
    cases hs : p.state with
    | answered b => exact absurd hs (hp b)
    | waiting => simp [ih]
    | sending b => simp [ih]

/-! ### The notice on offer (R149, R150) -/

theorem takeFirstUnsent_split {before after : List Notice} {e : Notice} (h : ∀ x ∈ before, x.state = .sent)
    (he : e.state = .unsent) : takeFirstUnsent (before ++ e :: after) = before ++ e.taken :: after := by
  induction before with
  | nil => simp [takeFirstUnsent, he]
  | cons p rest ih => simp [takeFirstUnsent, h p (by simp), ih fun q hq => h q (by simp [hq])]

theorem find_unsent {before after : List Notice} {e : Notice} (h : ∀ x ∈ before, x.state = .sent)
    (he : e.state = .unsent) : (before ++ e :: after).find? (·.state == .unsent) = some e := by
  induction before with
  | nil => simp [he]
  | cons p rest ih => simp [h p (by simp), ih fun q hq => h q (by simp [hq])]

/-! ### The arbiter (R169) -/

/-- While a frame is being sent the arbiter does nothing. -/
theorem State.arbitrate_of_busy {s : State} (h : s.link.tx ≠ none) : s.arbitrate = s := by
  unfold State.arbitrate State.txFree
  cases hx : s.link.tx with
  | none => exact absurd hx h
  | some o => simp

theorem State.arbitrate_of_idle {s : State} (hh : s.held = none) (h : s.link.tx = none) :
    s.arbitrate = if s.link.helloOffered then s.sendHello else if s.link.nakPending then s.sendNak else s.sendWaiting := by
  unfold State.arbitrate State.txFree; simp [h, hh]

/-- What the arbiter can do, in one case split: nothing, or one frame taken by one of the five sends. -/
theorem State.arbitrate_cases (s : State) :
    s.arbitrate = s ∨ s.arbitrate = s.sendHello ∨ s.arbitrate = s.sendNak ∨
      (∃ r, sendFirstAnswer s.link.places = some r ∧ s.arbitrate = s.sendAnswer r.1 r.2) ∨
      (∃ e, s.notices.offer s.params.noticeWindow = some e ∧ s.arbitrate = s.sendNotice e) ∨
      (∃ i rest sl, s.notices.ready = i :: rest ∧ s.slot i = some sl ∧ s.arbitrate = s.sendHint i sl) := by
  unfold State.arbitrate
  split
  · split
    · right; left; rfl
    · split
      · right; right; left; rfl
      · unfold State.sendWaiting
        split
        · rename_i r hr; right; right; right; left; exact ⟨r, hr, rfl⟩
        · split
          · rename_i e he; right; right; right; right; left; exact ⟨e, he, rfl⟩
          · unfold State.sendReadyHint
            cases hr : s.notices.ready with
            | nil => left; rfl
            | cons i rest =>
              simp only [List.head?_cons]
              cases hs : s.slot i with
              | none => left; rfl
              | some sl => right; right; right; right; right; exact ⟨i, rest, sl, rfl, hs, rfl⟩
  · left; rfl

/-- The arbiter's second decision in a row finds the transmitter busy or nothing offered. -/
theorem State.arbitrate_arbitrate (s : State) : s.arbitrate.arbitrate = s.arbitrate := by
  rcases s.arbitrate_cases with h | h | h | ⟨r, _, h⟩ | ⟨e, _, h⟩ | ⟨i, rest, sl, _, _, h⟩
  · rw [h, h]
  all_goals
    rw [h]
    exact State.arbitrate_of_busy (by intro hx; cases hx)

end Sys2Proof.Machine
end

