-- ==== Sys2Proof/Laws/Framer.lean ====
section
/-!
SUPPORT. The receive framer takes a frame of R187 character by character.
-/

namespace Sys2Proof.Laws

open Sys2Proof.Machine Sys2Proof.Safety

/-- A body of the declared length brings the framer to CHECK with all of it (R161). -/
theorem takeChars_body (l : List Byte) (n : Nat) : ∀ (rest got : List Byte) (s : State), s.link.framer = .body l n got
    → rest ≠ [] → got.length + rest.length = n →
    s.takeChars rest = { s with link := { s.link with framer := .check (l ++ got ++ rest) (got ++ rest) [] } } := by
  intro rest
  induction rest with
  | nil => intro _ _ _ h; exact absurd rfl h
  | cons b rest ih =>
    intro got s hs _ hn
    have hn' : got.length + (rest.length + 1) = n := by simpa using hn
    unfold State.takeChars
    rw [List.foldl_cons]
    cases rest with
    | nil =>
      have : s.takeChar b = { s with link := { s.link with framer := .check (l ++ got ++ [b]) (got ++ [b]) [] } } :=
          by
        unfold State.takeChar
        simp only [hs, Framer.take]
        rw [if_pos (by simp at hn'; omega)]
      rw [this]; rfl
    | cons c rest =>
      have : s.takeChar b = { s with link := { s.link with framer := .body l n (got ++ [b]) } } := by
        unfold State.takeChar
        simp only [hs, Framer.take]
        rw [if_neg (by simp at hn'; omega)]
      rw [this]
      have := ih (got ++ [b]) { s with link := { s.link with framer := .body l n (got ++ [b]) } } rfl (by simp)
          (by simp at hn' ⊢; omega)
      unfold State.takeChars at this
      rw [this]
      simp

/-- The length field reads back (R187). -/
theorem half_of_numBytes (n : Nat) (h : n < 65536) :
    (half ((BitVec.ofNat 16 n).extractLsb' 8 8) ((BitVec.ofNat 16 n).extractLsb' 0 8)).toNat = n := by
  rw [half_split]; simp; omega

/-- A frame of R187 with some CRC, taken from HUNT: good exactly when the CRC is the right one (R161, R162). -/
theorem takeChars_frame (s : State) (seq type : Byte) (payload : List Byte) (crc : Half) (hf : s.link.framer = .hunt)
    (hp : payload.length ≤ 280) :
    s.takeChars (0xA5 :: frameCovered seq type payload ++ halfBytes crc) =
      if crc = hostCrc (frameCovered seq type payload) then
          (s.goodFrame { seq := seq, type := type, payload := payload }).arbitrate
      else s.badFrame.arbitrate := by
  have hlen : payload.length + 2 < 65536 := by omega
  let hi := (BitVec.ofNat 16 (payload.length + 2)).extractLsb' 8 8
  let lo := (BitVec.ofNat 16 (payload.length + 2)).extractLsb' 0 8
  have hcov : frameCovered seq type payload = hi :: lo :: (seq :: type :: payload) := rfl
  have h1 : s.takeChar 0xA5 = { s with link := { s.link with framer := .length [] } } := by
    unfold State.takeChar; simp [hf, Framer.take]
  let s1 : State := { s with link := { s.link with framer := .length [] } }
  have h2 : s1.takeChar hi = { s with link := { s.link with framer := .length [hi] } } := rfl
  let s2 : State := { s with link := { s.link with framer := .length [hi] } }
  have h3 : s2.takeChar lo = { s with link := { s.link with framer := .body [hi, lo] (payload.length + 2) [] } } := by
    unfold State.takeChar
    simp only [s2, Framer.take]
    rw [show (half hi lo).toNat = payload.length + 2 from half_of_numBytes _ hlen]
    rw [if_pos (by omega)]
  let s3 : State := { s with link := { s.link with framer := .body [hi, lo] (payload.length + 2) [] } }
  have h4 := takeChars_body [hi, lo] (payload.length + 2) (seq :: type :: payload) [] s3 rfl (by simp) (by simp)
  let s4 : State :=
      { s with link := { s.link with framer := .check (frameCovered seq type payload) (seq :: type :: payload) [] } }
  have h5 : s3.takeChars (seq :: type :: payload) = s4 := by rw [h4]; simp only [s4, s3, hcov]; rfl
  rw [hcov]
  show List.foldl State.takeChar s (0xA5 :: hi :: lo :: ((seq :: type :: payload) ++ halfBytes crc)) = _
  rw [List.foldl_cons, h1, List.foldl_cons, h2, List.foldl_cons, h3, List.foldl_append]
  have h6 : List.foldl State.takeChar s3 (seq :: type :: payload) = s4 := h5
  rw [h6, halfBytes_eq, List.foldl_cons, List.foldl_cons, List.foldl_nil]
  let s5 : State :=
      { s with link := { s.link with framer := .check (frameCovered seq type payload) (seq :: type :: payload) [crc.extractLsb' 8 8] } }
  have h7 : s4.takeChar (crc.extractLsb' 8 8) = s5 := rfl
  rw [h7]
  unfold State.takeChar
  simp only [s5, Framer.take, half_split]
  rw [hcov]
  have hg : ∀ f : Framer, State.goodFrame { s with link := { s.link with framer := f } }
      { seq := seq, type := type, payload := payload } = s.goodFrame { seq := seq, type := type, payload := payload }
          := by
    intro f; unfold State.goodFrame; simp only; split <;> rfl
  by_cases hc : crc = hostCrc (hi :: lo :: seq :: type :: payload)
  · rw [if_pos hc, if_pos hc]; simp only [hg]
  · rw [if_neg hc, if_neg hc]; rfl

end Sys2Proof.Laws
end

