-- ==== Sys2Proof/Laws/Step.lean ====
section
/-!
SUPPORT. What a step can do, said once: a property of a part out of reset that the middle operations keep is kept by every
command and by every step.
-/

namespace Sys2Proof.Machine

open Sys2Proof.Safety

/-- The middle operations keep Q. The requests are the executions that the dispatcher can run. -/
structure Kept (Q : State → Prop) : Prop where
  pendingFree : ∀ (s : State) (l : List Instr), Q s → Q { s with pending := l }
  segAttnFree : ∀ (s : State) (b : Bool), Q s → Q { s with segAttn := b }
  arbitrate : ∀ s : State, Q s → Q s.arbitrate
  replayAnswer : ∀ (s : State) (a : StoredAnswer), Q s → Q (s.replayAnswer a)
  giveAnswer : ∀ (s : State) (seq type : Byte) (a : Answer), s.link.stored seq = none → Q s →
    Q (s.giveAnswer seq type a)
  takeChar : ∀ (s : State) (b : Byte), Q s → Q (s.takeChar b)
  frameGap : ∀ s : State, Q s → Q s.frameGap
  linkReset : ∀ s : State, Q s → Q s.linkReset
  partReset : ∀ (cause : ResetCause) (lspd : BitVec 2) (a : Bool) (l : List Instr),
    Q (State.afterPartReset cause lspd a l)
  frameSent : ∀ (s : State) (o : Option Outgoing) (hello : Bool) (places : List Place),
    places.Sublist s.link.places → Q s → Q { s with link := { s.link with tx := o, helloOffered := hello, places := places } }
  postWrite : ∀ (s : State) (seq : Byte) (a : NodeId × Half × List Byte), Q s → Q (s.postWrite seq a).1
  broadcastWrite : ∀ (s : State) (seq : Byte) (a : Half × List Byte), Q s → Q (s.broadcastWrite seq a).1
  takeDelayed : ∀ (s : State) (req : DelayedReq) (notify : Bool), Q s → Q (s.takeDelayed req notify).1
  cancel : ∀ (s : State) (i : SlotId), Q s → Q (s.cancel i).1
  acknowledge : ∀ (s : State) (n : Half), Q s → Q (s.acknowledge n).1
  setNode : ∀ (s : State) (n : NodeId) (r : NodeRecord), Q s → Q (s.setNode n r)
  storeParam : ∀ (s : State) (p : ParamId) (v : Nat), p.allows v = true → Q s → Q { s with params := s.params.set v p }
  segmentReset : ∀ s : State, Q s → Q s.segmentReset
  requestReset : ∀ s : State, Q s → Q { s with link := { s.link with stopped := true } }
  schedule : ∀ s : State, Q s → Q s.schedule
  holdExpires : ∀ s : State, s.seg.hold.isSome = true → Q s → Q s.holdExpires
  enterRunning : ∀ s : State, s.seg.settle.isSome = true → Q s → Q s.enterRunning
  engine : ∀ (s : State) (e : Engine), (∀ x : Transaction, e.txn = some x → ∃ y : Transaction,
      s.engine.txn = some y ∧ (DrivenOk y → DrivenOk x)) → Q s → Q { s with engine := e }
  counters : ∀ (s : State) (c : Counters), Q s → Q { s with counters := c }
  deliver : ∀ (s : State) (t : Transaction) (o : SegOutcome), s.engine.txn = some t → Q s → Q (s.deliver t o)
  windowEnds : ∀ (s : State) (t : Transaction), s.engine.txn = some t → Q s → Q (s.windowEnds t)
  trainEnds : ∀ (s : State) (starts : List TrainStart), s.engine.txn.isSome = true → Q s → Q (s.trainEnds starts)
  headGapEnds : ∀ s : State, Q s → Q s.headGapEnds
  slotGapEnds : ∀ (s : State) (i : SlotId), Q s → Q (s.slotGapEnds i)
  discardSlot : ∀ (s : State) (i : SlotId) (sl : Slot), s.slot i = some sl → sl.discard.isSome = true → Q s →
    Q (s.discardSlot i sl)
  holdoffNone : ∀ s : State, Q s → Q { s with attn := { s.attn with holdoff := none } }
  rewind : ∀ s : State, Q s → Q { s with notices := s.notices.rewind }

/-- A phase found is the phase of the transaction held. -/
theorem State.inPhase_some {s : State} {p : Phase} {t : Transaction} (h : s.inPhase p = some t) :
    s.engine.txn = some t ∧ t.phase = p := by
  unfold State.inPhase at h
  split at h
  · rename_i u hu
    split at h
    · rename_i hp; cases h; exact ⟨hu, hp⟩
    · cases h
  · cases h

namespace Kept

variable {Q : State → Prop}

theorem event (k : Kept Q) (act : State → State) (hact : ∀ u : State, Q u → Q (act u)) (s : State)
    (hs : s.held = none → Q s) : (s.event act).held = none → Q (s.event act) := by
  intro h
  unfold State.event at h ⊢
  split at h
  · rename_i hh; rw [h] at hh; cases hh
  · rename_i hh
    rw [if_neg hh]
    have : s.held = none := by
      cases hx : s.held with
      | none => rfl
      | some c => rw [hx] at hh; exact absurd rfl hh
    exact k.arbitrate _ (hact s (hs this))

theorem takeFrame (k : Kept Q) (seq type : Byte) (payload : List Byte) (run : State → State × Answer)
    (hrun : ∀ u : State, Q u → Q (run u).1) (hst : ∀ u : State, (run u).1.link.store = u.link.store) (s : State)
    (h : Q s) : Q (s.takeFrame seq type payload run) := by
  unfold State.takeFrame
  split
  · split
    · exact k.replayAnswer _ _ h
    · rename_i hn
      refine k.giveAnswer _ _ _ _ ?_ (hrun s h)
      unfold Link.stored at hn ⊢
      rw [hst]; exact hn
  · exact h

theorem request {α : Type} (k : Kept Q) (seq type : Byte) (payload : List Byte) (operands : Option α)
    (owner : α → State → State × Answer) (hown : ∀ (a : α) (u : State), Q u → Q (owner a u).1)
    (hst : ∀ (a : α) (u : State), (owner a u).1.link.store = u.link.store) (s : State) (h : Q s) :
    Q (s.takeFrame seq type payload (State.validated operands owner)) := by
  refine k.takeFrame seq type payload _ ?_ ?_ s h
  · intro u hu
    unfold State.validated
    split
    · exact hown _ u hu
    · exact hu
  · intro u
    unfold State.validated
    split
    · exact hst _ u
    · rfl

theorem partResetEnds (k : Kept Q) (s : State) (cause : ResetCause) (lspd : BitVec 2) : Q (s.partReset cause lspd) := by
  unfold State.partReset
  exact k.arbitrate _ (k.partReset _ _ _ _)

theorem answerSent (k : Kept Q) (s : State) (lspd : BitVec 2) (h : Q s) : Q (s.answerSent lspd) := by
  unfold State.answerSent
  split
  · exact k.partResetEnds _ _ _
  · exact k.frameSent s none s.link.helloOffered _ List.filter_sublist h

theorem frameSentEvent (k : Kept Q) (s : State) (lspd : BitVec 2) (h : Q s) : Q (s.frameSent lspd) := by
  unfold State.frameSent
  split
  · exact h
  · split
    · exact k.frameSent s none false _ (List.Sublist.refl _) h
    · exact k.frameSent s none s.link.helloOffered _ (List.Sublist.refl _) h
    · exact k.answerSent s lspd h
    · exact k.frameSent s none s.link.helloOffered _ (List.Sublist.refl _) h
    · exact k.frameSent s none s.link.helloOffered _ (List.Sublist.refl _) h

theorem breakReset (k : Kept Q) (s : State) (lspd : BitVec 2) (h : Q s) : Q (s.breakReset lspd) := by
  unfold State.breakReset
  split
  · exact k.partResetEnds _ _ _
  · exact k.linkReset s h

theorem takeChars (k : Kept Q) (chars : List Byte) (s : State) (h : Q s) : Q (s.takeChars chars) :=
  foldl_invariant Q State.takeChar (fun u b hu => k.takeChar u b hu) chars s h

theorem ofPhase (k : Kept Q) (p : Phase) (f : State → Transaction → State)
    (hf : ∀ (u : State) (x : Transaction), u.engine.txn = some x → Q u → Q (f u x)) (s : State) (h : Q s) :
    Q (match s.inPhase p with
      | some x => f s x
      | none => s) := by
  have _ := k
  split
  · rename_i x hx
    exact hf s x (State.inPhase_some hx).1 h
  · exact h

theorem setTxn (k : Kept Q) (s : State) (t u : Transaction) (hx : s.engine.txn = some t) (hd : DrivenOk t → DrivenOk u)
    (h : Q s) : Q (s.setTxn u) :=
  k.engine s _ (fun x e => ⟨t, hx, fun hy => by cases e; exact hd hy⟩) h

theorem classified (k : Kept Q) (s : State) (t : Transaction) (o : SegOutcome) (hx : s.engine.txn = some t) (h : Q s) :
    Q (s.classified t o) := k.deliver _ t o hx (k.counters s _ h)

theorem silent (k : Kept Q) (s : State) (t : Transaction) (hx : s.engine.txn = some t) (h : Q s) : Q (s.silent t) := by
  unfold State.silent
  exact k.deliver _ t _ hx (k.counters s _ h)

theorem respond (k : Kept Q) (s : State) (t : Transaction) (chars : List RxChar) (hx : s.engine.txn = some t) (h : Q s) :
    Q (s.respond t chars) := by
  unfold State.respond
  simp only
  split
  · exact k.classified s t _ hx h
  · exact k.setTxn s t _ hx id h

theorem turnaroundEnds (k : Kept Q) (s : State) (h : Q s) : Q s.turnaroundEnds := by
  unfold State.turnaroundEnds
  split
  · rename_i t ht
    have h1 := k.engine s { txn := some { t with phase := .sending, driven := some t.cmd.packet }, turnaround := none }
      (fun x e => ⟨t, (State.inPhase_some ht).1, fun _ => by cases e; rfl⟩) h
    exact k.counters _ { s.counters with transactionsSent := s.counters.transactionsSent + 1 } h1
  · exact k.engine s _ (fun x e => ⟨x, e, id⟩) h

/-- Every command keeps Q of a part out of reset. -/
theorem exec (k : Kept Q) (c : Instr) (s t : State) (hs : s.held = none → Q s) (ht : Machine.exec c s = .next t) :
    t.held = none → Q t := by
  have ev : ∀ act : State → State, (∀ u, Q u → Q (act u)) →
      Host.Outcome.next (φ := Fault) (ρ := Refusal) (s.event act) = .next t → t.held = none → Q t := by
    intro act hact h
    cases h
    exact k.event act hact s hs
  have att : ∀ (b : Bool) (act : State → State), (∀ u, Q u → Q (act u)) →
      Host.Outcome.next (φ := Fault) (ρ := Refusal) ({ s with segAttn := b }.event act) = .next t →
      t.held = none → Q t := by
    intro b act hact h
    cases h
    exact k.event act hact _ (fun hh => k.segAttnFree s b (hs hh))
  cases c with
  | postWrite seq p => exact ev _ (fun u hu => k.request _ _ _ _ _ (fun a v hv => k.postWrite v seq a hv) (by simp) u hu) ht
  | broadcastWrite seq p =>
    exact ev _ (fun u hu => k.request _ _ _ _ _ (fun a v hv => k.broadcastWrite v seq a hv) (by simp) u hu) ht
  | confirmWrite seq p =>
    exact ev _ (fun u hu => k.request _ _ _ _ _ (fun a v hv => k.takeDelayed v a.1 a.2 hv) (by simp [State.delayedOwner]) u hu) ht
  | readRegs seq p =>
    exact ev _ (fun u hu => k.request _ _ _ _ _ (fun a v hv => k.takeDelayed v a.1 a.2 hv) (by simp [State.delayedOwner]) u hu) ht
  | readBlock seq p =>
    exact ev _ (fun u hu => k.request _ _ _ _ _ (fun a v hv => k.takeDelayed v a.1 a.2 hv) (by simp [State.delayedOwner]) u hu) ht
  | probeNode seq p =>
    exact ev _ (fun u hu => k.request _ _ _ _ _ (fun a v hv => k.takeDelayed v a.1 a.2 hv) (by simp [State.delayedOwner]) u hu) ht
  | barrier seq p =>
    exact ev _ (fun u hu => k.request _ _ _ _ _ (fun a v hv => k.takeDelayed v a.1 a.2 hv) (by simp [State.delayedOwner]) u hu) ht
  | cancelSlot seq p => exact ev _ (fun u hu => k.request _ _ _ _ _ (fun a v hv => k.cancel v a hv) (by simp) u hu) ht
  | noticeAck seq p => exact ev _ (fun u hu => k.request _ _ _ _ _ (fun a v hv => k.acknowledge v a hv) (by simp) u hu) ht
  | setNode seq p =>
    exact ev _ (fun u hu => k.request _ _ _ _ _ (fun a v hv => k.setNode v a.1 _ hv) (by simp [State.configureNode]) u hu) ht
  | getNode seq p => exact ev _ (fun u hu => k.request _ _ _ _ _ (fun a v hv => hv) (by simp [State.readNode]) u hu) ht
  | setParam seq p =>
    refine ev _ (fun u hu => k.request _ _ _ _ _ (fun a v hv => ?_) (fun a v => ?_) u hu) ht
    · unfold State.storeParam
      split
      · exact hv
      · split
        · rename_i hal; exact k.storeParam v _ _ hal hv
        · exact hv
    · unfold State.storeParam
      repeat' split
      all_goals rfl
  | getParam seq p =>
    refine ev _ (fun u hu => k.request _ _ _ _ _ (fun a v hv => ?_) (fun a v => ?_) u hu) ht
    · unfold State.readParam
      split <;> exact hv
    · unfold State.readParam
      split <;> rfl
  | getStatus seq p => exact ev _ (fun u hu => k.request _ _ _ _ _ (fun a v hv => hv) (by simp [State.readStatus]) u hu) ht
  | identify seq p => exact ev _ (fun u hu => k.request _ _ _ _ _ (fun a v hv => hv) (by simp [State.identity]) u hu) ht
  | segmentReset seq p =>
    exact ev _ (fun u hu => k.request _ _ _ _ _ (fun a v hv => k.segmentReset v hv) (by simp [State.resetSegment]) u hu) ht
  | partReset seq p =>
    exact ev _ (fun u hu => k.request _ _ _ _ _ (fun a v hv => k.requestReset v hv) (by simp [State.requestReset]) u hu) ht
  | unknownTypeRequest seq ty p =>
    refine ev _ (fun u hu => ?_) ht
    split
    · exact hu
    · exact k.takeFrame _ _ _ _ (fun v hv => hv) (fun v => rfl) u hu
  | replay seq ty p =>
    refine ev _ (fun u hu => ?_) ht
    split
    · exact k.takeFrame _ _ _ _ (fun v hv => hv) (fun v => rfl) u hu
    · exact hu
  | frameReceived chars => exact ev _ (fun u hu => k.takeChars chars u hu) ht
  | badFrame chars => exact ev _ (fun u hu => k.takeChars chars u hu) ht
  | frameGapTimeout => exact ev _ k.frameGap ht
  | lineBreak lspd => exact ev _ (fun u hu => k.breakReset _ lspd (k.frameGap _ (k.takeChar u 0 hu))) ht
  | frameTransmitted lspd => exact ev _ (fun u hu => k.frameSentEvent u lspd hu) ht
  | powerOn => cases ht; intro h; exact absurd h (by simp)
  | nrstLow => cases ht; intro h; exact absurd h (by simp)
  | partResetEnd lspd =>
    simp only [Machine.exec, execPartResetEnd] at ht
    split at ht
    · cases ht; intro _; exact k.partResetEnds _ _ _
    · cases ht; exact hs
  | holdExpiry =>
    refine ev _ (fun u hu => ?_) ht
    split
    · rename_i hh; exact k.holdExpires u hh hu
    · exact hu
  | settleExpiry =>
    refine ev _ (fun u hu => ?_) ht
    split
    · rename_i hh; exact k.enterRunning u hh hu
    · exact hu
  | segAttnAsserted => exact att true _ k.schedule ht
  | segAttnReleased => exact att false _ (fun u hu => hu) ht
  | turnaroundExpiry =>
    refine ev _ (fun u hu => ?_) ht
    split
    · exact k.turnaroundEnds u hu
    · exact hu
  | commandSent =>
    refine ev _ (k.ofPhase _ _ (fun u x hx hu => k.setTxn u x _ hx (fun _ => ?_) hu)) ht
    show none = if x.cmd.afterSending = .sending then _ else none
    rw [if_neg]
    unfold Command.afterSending
    split <;> decide
  | responseWindowExpiry =>
    exact ev _ (k.ofPhase _ _ (fun u x hx hu => k.silent u x hx hu)) ht
  | responseEnd chars =>
    exact ev _ (k.ofPhase _ _ (fun u x hx hu => k.respond u x chars hx hu)) ht
  | responseGapTimeout =>
    exact ev _ (k.ofPhase _ _ (fun u x hx hu => k.classified u x _ hx hu)) ht
  | broadcastWindowExpiry =>
    exact ev _ (k.ofPhase _ _ (fun u x hx hu => k.windowEnds u x hx hu)) ht
  | surveyTrainEnd starts =>
    refine ev _ (fun u hu => ?_) ht
    split
    · rename_i x hx
      have h1 : u.engine.txn.isSome = true := by rw [(State.inPhase_some hx).1]; rfl
      exact k.trainEnds u starts h1 hu
    · exact hu
  | headGapExpiry => exact ev _ k.headGapEnds ht
  | slotGapExpiry i => exact ev _ (fun u hu => k.slotGapEnds u i hu) ht
  | discardExpiry i =>
    refine ev _ (fun u hu => ?_) ht
    unfold State.discardEnds
    split
    · exact hu
    · split
      · rename_i sl hsl hd; exact k.discardSlot u i sl hsl hd hu
      · exact hu
  | fetchEligibleExpiry n =>
    refine ev _ (fun u hu => ?_) ht
    unfold State.fetchEligibleEnds
    split
    · exact k.schedule _ (k.setNode u n _ hu)
    · exact hu
  | surveyHoldoffExpiry =>
    refine ev _ (fun u hu => ?_) ht
    unfold State.holdoffEnds
    split
    · exact k.schedule _ (k.holdoffNone u hu)
    · exact hu
  | resendExpiry =>
    refine ev _ (fun u hu => ?_) ht
    unfold State.resendEnds
    split
    · exact k.rewind u hu
    · exact hu
  | responseStartBit =>
    refine ev _ (fun u hu => ?_) ht
    split
    · rename_i x hx
      refine k.setTxn u x _ (State.inPhase_some hx).1 (fun hd => ?_) hu
      unfold DrivenOk at hd ⊢
      rw [(State.inPhase_some hx).2] at hd
      exact hd
    · exact hu
  | frameStartCharacter => exact ev _ (fun u hu => k.takeChar u _ hu) ht

/-- Every step keeps Q of a part out of reset. -/
theorem step (k : Kept Q) (s t : State) (hs : s.held = none → Q s) (ht : Machine.step s = .next t) :
    t.held = none → Q t := by
  unfold Machine.step at ht
  split at ht
  · cases ht; exact hs
  · rename_i rest _
    exact k.exec _ { s with pending := rest } t (fun hh => k.pendingFree s rest (hs hh)) ht

end Kept

end Sys2Proof.Machine
end

