-- ==== Sys2Proof/Laws/Notices.lean ====
section
/-!
SUPPORT. The Notice Block's operations keep the Notice Queue's form: at most 24 entries, consecutive numbers, the SENT
entries in front, the resend deadline running exactly while one is SENT.
-/

namespace Sys2Proof.Machine

open Sys2Proof.Safety

theorem numbersBefore_length (next : Half) (k : Nat) : (numbersBefore next k).length = k := by
  simp [numbersBefore]

theorem numbersBefore_succ (next : Half) (k : Nat) :
    numbersBefore (next + 1) (k + 1) = numbersBefore next k ++ [next] := by
  unfold numbersBefore
  rw [List.range_succ, List.map_append]
  congr 1
  · apply List.map_congr_left
    intro i hi
    have hik : i < k := List.mem_range.mp hi
    have : k + 1 - i = (k - i) + 1 := by omega
    rw [this, BitVec.ofNat_add]
    bv_omega
  · have : k + 1 - k = 1 := by omega
    simp only [List.map_cons, List.map_nil, this]
    congr 1
    bv_omega

theorem numbersBefore_drop (next : Half) (k r : Nat) :
    (numbersBefore next k).drop r = numbersBefore next (k - r) := by
  apply List.ext_getElem
  · simp [numbersBefore]
  · intro i h1 h2
    simp only [numbersBefore, List.getElem_drop, List.getElem_map, List.getElem_range]
    have : k - (r + i) = k - r - i := by omega
    rw [this]

/-! ### SENT entries in front -/

theorem sentRun_append_unsent (q : List Notice) (u : Notice) (hu : u.state = .unsent) :
    sentRun (q ++ [u]) = sentRun q := by
  induction q with
  | nil => simp [sentRun, hu]
  | cons e rest ih =>
    simp only [List.cons_append, sentRun]
    split
    · exact ih
    · simp [hu]

theorem sentRun_of_all_unsent (q : List Notice) (h : q.all (fun x => x.state == .unsent) = true) : sentRun q = true := by
  induction q with
  | nil => rfl
  | cons e rest ih =>
    simp only [List.all_cons, Bool.and_eq_true, beq_iff_eq] at h
    simp [sentRun, h.1, h.2]

theorem sentRun_drop (q : List Notice) (r : Nat) (h : sentRun q = true) : sentRun (q.drop r) = true := by
  induction q generalizing r with
  | nil => simp [sentRun]
  | cons e rest ih =>
    cases r with
    | zero => exact h
    | succ r =>
      simp only [List.drop_succ_cons]
      simp only [sentRun] at h
      split at h
      · exact ih r h
      · apply sentRun_of_all_unsent
        rw [List.all_eq_true] at h ⊢
        exact fun x hx => h x (List.mem_of_mem_drop hx)

theorem sentRun_rewound (q : List Notice) : sentRun (q.map fun e => { e with state := .unsent }) = true := by
  apply sentRun_of_all_unsent
  simp [List.all_map]

theorem takeFirstUnsent_numbers (q : List Notice) : (takeFirstUnsent q).map (·.number) = q.map (·.number) := by
  induction q with
  | nil => rfl
  | cons e rest ih =>
    simp only [takeFirstUnsent]
    split
    · rfl
    · simp [ih]

theorem takeFirstUnsent_length (q : List Notice) : (takeFirstUnsent q).length = q.length := by
  have := congrArg List.length (takeFirstUnsent_numbers q)
  simpa using this

theorem sentRun_takeFirstUnsent (q : List Notice) (h : sentRun q = true) : sentRun (takeFirstUnsent q) = true := by
  induction q with
  | nil => rfl
  | cons e rest ih =>
    simp only [sentRun] at h
    simp only [takeFirstUnsent]
    cases hs : e.state with
    | sent =>
      rw [if_pos hs] at h
      simp only [reduceCtorEq, if_false, sentRun, hs, if_true]
      exact ih h
    | unsent =>
      rw [if_neg (by rw [hs]; decide)] at h
      simp only [if_true, sentRun, Notice.taken]
      exact sentRun_of_all_unsent rest h

theorem takeFirstUnsent_anySent (q : List Notice) (h : q.any (fun e => e.state == .unsent) = true) :
    (takeFirstUnsent q).any (fun e => e.state == .sent) = true := by
  induction q with
  | nil => simp at h
  | cons e rest ih =>
    simp only [takeFirstUnsent]
    cases hs : e.state with
    | sent => simp [hs]
    | unsent => simp [Notice.taken]

/-- An entry on offer is UNSENT. -/
theorem NoticeBlock.offer_unsent {b : NoticeBlock} {w : Nat} {e : Notice} (h : b.offer w = some e) :
    b.queue.any (fun x => x.state == .unsent) = true := by
  unfold NoticeBlock.offer at h
  split at h
  · have h1 := List.find?_some h
    have h2 := List.mem_of_find?_eq_some h
    exact List.any_eq_true.mpr ⟨e, h2, h1⟩
  · cases h

/-! ### The operations -/

theorem noticesOk_congr {b c : NoticeBlock} (hq : c.queue = b.queue) (hn : c.next = b.next) (hr : c.resend = b.resend)
    (hl : c.ready = b.ready) (h : NoticesOk b) : NoticesOk c := by
  unfold NoticesOk at h ⊢
  rw [hq, hn, hr, hl]; exact h

/-- Adding a hint leaves the queue and keeps the Ready List ascending (notes/assumptions/18.md). -/
theorem noticesOk_addHint {b : NoticeBlock} (i : SlotId) (h : NoticesOk b) : NoticesOk (b.addHint i) := by
  obtain ⟨h1, h2, h3, h4, _⟩ := h
  refine ⟨h1, h2, h3, h4, ?_⟩
  exact List.Pairwise.filter _ (List.pairwise_lt_finRange 8)

/-- Removing a hint leaves the queue and keeps the Ready List ascending (notes/assumptions/18.md). -/
theorem noticesOk_removeHint {b : NoticeBlock} (i : SlotId) (h : NoticesOk b) : NoticesOk (b.removeHint i) := by
  obtain ⟨h1, h2, h3, h4, h5⟩ := h
  exact ⟨h1, h2, h3, h4, h5.filter _⟩

theorem noticesOk_enter {b : NoticeBlock} (p : NoticePayload) (lost : Nat) (h : NoticesOk b)
    (hroom : b.hasRoom = true) :
    NoticesOk { b with queue := b.queue ++ [{ number := b.next, payload := p, state := .unsent, sendCount := 0 }]
                       next := b.next + 1
                       lostFaults := lost } := by
  obtain ⟨h1, h2, h3, h4, h5⟩ := h
  have hlen : b.queue.length < 24 := of_decide_eq_true hroom
  refine ⟨by simp; omega, ?_, ?_, ?_, h5⟩
  · rw [List.map_append, h2, List.length_append]
    exact (numbersBefore_succ b.next b.queue.length).symm
  · simpa [sentRun_append_unsent] using h3
  · rw [h4, List.any_append]
    simp [show (NoticeState.unsent == NoticeState.sent) = false from rfl]

theorem noticesOk_enterFault {b : NoticeBlock} (d : FaultDetail) (h : NoticesOk b) : NoticesOk (b.enterFault d) := by
  unfold NoticeBlock.enterFault
  split
  · rename_i hr; exact noticesOk_enter _ 0 h hr
  · exact h

theorem noticesOk_enterReport {b : NoticeBlock} (n : NodeId) (code : Byte) (data : List Byte) (h : NoticesOk b)
    (hroom : b.hasRoom = true) : NoticesOk (b.enterReport n code data) := noticesOk_enter _ b.lostFaults h hroom

theorem noticesOk_rewind {b : NoticeBlock} (h : NoticesOk b) : NoticesOk b.rewind := by
  obtain ⟨h1, h2, _, _, h5⟩ := h
  refine ⟨by simpa using h1, ?_, sentRun_rewound _, by simp, h5⟩
  simpa [Function.comp_def] using h2

theorem noticesOk_removeFirst {b : NoticeBlock} (r t : Nat) (h : NoticesOk b) : NoticesOk (b.removeFirst r t) := by
  obtain ⟨h1, h2, h3, _, h5⟩ := h
  refine ⟨by simp; omega, ?_, sentRun_drop _ _ h3, ?_, h5⟩
  · simp [List.map_drop, h2, numbersBefore_drop]
  · simp only [NoticeBlock.removeFirst_resend, NoticeBlock.removeFirst_queue]
    split
    · rename_i hx; simp [hx]
    · rename_i hx; simpa using hx

theorem noticesOk_takeNotice {b : NoticeBlock} (t w : Nat) (e : Notice) (ho : b.offer w = some e) (h : NoticesOk b) :
    NoticesOk (b.takeNotice t) := by
  obtain ⟨h1, h2, h3, _, h5⟩ := h
  refine ⟨by simpa [takeFirstUnsent_length] using h1, ?_, sentRun_takeFirstUnsent _ h3, ?_, h5⟩
  · simpa [takeFirstUnsent_numbers, takeFirstUnsent_length] using h2
  · rw [NoticeBlock.takeNotice_queue, takeFirstUnsent_anySent _ (NoticeBlock.offer_unsent ho)]
    unfold NoticeBlock.takeNotice
    split <;> rfl

theorem noticesOk_empty (n : Half) (lost : Nat) :
    NoticesOk { queue := [], next := n, lostFaults := lost, resend := none, ready := [] } :=
  ⟨by simp, by simp [numbersBefore], rfl, rfl, List.Pairwise.nil⟩

end Sys2Proof.Machine
end

