-- ==== Sys2Proof/Laws/Pwq.lean ====
section
/-!
SUPPORT. The Posted Write Queue's operations keep its form: at most 16 entries and 1,024 bytes, consecutive numbers.
-/

namespace Sys2Proof.Machine

open Sys2Proof.Safety

/-- What the queue's form reads of an entry. -/
def Entry.measure (e : Entry) : Half × Nat := (e.number, e.data.length)

theorem pwqOk_iff (q : Pwq) : PwqOk q ↔ (q.entries.map Entry.measure).length ≤ 16 ∧
    ((q.entries.map Entry.measure).map (·.2)).sum ≤ 1024 ∧
      (q.entries.map Entry.measure).map (·.1) = numbersBefore q.nextNumber (q.entries.map Entry.measure).length ∧
        q.lossCount ≤ 65535 := by
  simp [PwqOk, Pwq.bytes, Entry.measure, Function.comp_def]

/-- The form depends on the entries' numbers and lengths, on the next number and on the posted-loss counter. -/
theorem pwqOk_congr {p q : Pwq} (hn : q.nextNumber = p.nextNumber)
    (he : q.entries.map Entry.measure = p.entries.map Entry.measure) (hl : q.lossCount ≤ 65535) (h : PwqOk p) :
    PwqOk q := by
  rw [pwqOk_iff] at h ⊢
  rw [hn, he]; exact ⟨h.1, h.2.1, h.2.2.1, hl⟩

/-- Entries leave from the front. -/
theorem pwqOk_drop {p q : Pwq} (r : Nat) (hn : q.nextNumber = p.nextNumber) (he : q.entries = p.entries.drop r)
    (hl : q.lossCount ≤ 65535) (h : PwqOk p) : PwqOk q := by
  obtain ⟨h1, h2, h3, _⟩ := h
  refine ⟨by rw [he]; simp; omega, ?_, ?_, hl⟩
  · have hs : q.bytes ≤ p.bytes := by
      unfold Pwq.bytes
      rw [he, List.map_drop]
      exact List.Sublist.sum_le_sum (List.drop_sublist r _) (fun _ _ => Nat.zero_le _)
    omega
  · rw [he, hn, List.map_drop, h3, numbersBefore_drop, List.length_drop]

theorem headedBy_entries (l : List Entry) (n : Half) (k : Nat) :
    ({ queue := headedBy l, nextNumber := n, lossCount := k } : Pwq).entries = l := by
  cases l <;> rfl

theorem Pwq.append_entries (q : Pwq) (t : Option NodeId) (addr : Half) (data : List Byte) (seq : Byte) :
    (q.append t addr data seq).entries = q.entries ++
        [{ number := q.nextNumber, target := t, addr := addr, data := data, delivered := 0, attempts := 0, originSeq := seq }]
            := by
  unfold Pwq.append Pwq.entries
  cases q.queue <;> rfl

theorem pwqOk_append {q : Pwq} (t : Option NodeId) (addr : Half) (data : List Byte) (seq : Byte)
    (hr : q.hasRoom data.length = true) (h : PwqOk q) : PwqOk (q.append t addr data seq) := by
  obtain ⟨_, _, h3, h4⟩ := h
  have hr' : q.entries.length < 16 ∧ q.bytes + data.length ≤ 1024 := by
    unfold Pwq.hasRoom at hr
    rw [Bool.and_eq_true] at hr
    exact ⟨of_decide_eq_true hr.1, of_decide_eq_true hr.2⟩
  refine ⟨?_, ?_, ?_, h4⟩
  · rw [Pwq.append_entries]; simp; omega
  · have : (q.append t addr data seq).bytes = q.bytes + data.length := by
      unfold Pwq.bytes; rw [Pwq.append_entries]; simp
    omega
  · rw [Pwq.append_entries, List.map_append, h3, List.length_append]
    exact (numbersBefore_succ q.nextNumber q.entries.length).symm

end Sys2Proof.Machine
end

