-- ==== Sys2Proof/Laws/Table.lean ====
section
/-!
SUPPORT. What the shared operations do to one slot of the Delayed Request Table.
-/

namespace Sys2Proof.Laws

open Sys2Proof.Machine Sys2Proof.Safety

theorem node_setNode_ne (s : State) (n m : NodeId) (r : NodeRecord) (h : m ≠ n) : (s.setNode n r).node m = s.node m :=
    by
  simp only [State.node, State.setNode]; rw [Fin.getElem_fin, Fin.getElem_fin, Vector.getElem_set_ne]; exact fun h2 =>
      h (Fin.ext h2.symm)

theorem node_setNode_self (s : State) (n : NodeId) (r : NodeRecord) : (s.setNode n r).node n = r := by
  simp [State.node, State.setNode]

theorem node_congr {s t : State} (h : t.nodes = s.nodes) (n : NodeId) : t.node n = s.node n := by
  unfold State.node; rw [h]

theorem slot_set_ne (s : State) (i j : SlotId) (r : Option Slot) (o : List SlotId) (h : j ≠ i) : State.slot
    { s with drt := { slots := s.drt.slots.set i r, order := o } } j = s.slot j := by
  simp only [State.slot]; rw [Fin.getElem_fin, Fin.getElem_fin, Vector.getElem_set_ne]; exact fun h2 => h
      (Fin.ext h2.symm)

theorem slot_set_self (s : State) (i : SlotId) (r : Option Slot) (o : List SlotId) : State.slot
    { s with drt := { slots := s.drt.slots.set i r, order := o } } i = r := by
  simp [State.slot]

theorem slot_congr {s t : State} (h : t.drt = s.drt) (i : SlotId) : t.slot i = s.slot i := by
  unfold State.slot; rw [h]

/-- Completing slot i leaves the other slots. -/
theorem completeWith_slot_ne (s : State) (i j : SlotId) (sl : Slot) (r : ResultStatus) (h : j ≠ i) :
    (s.completeWith i sl r).slot j = s.slot j := by
  unfold State.completeWith
  rw [← slot_set_ne s i j _ (s.drt.order.filter (· != i)) h]; rfl

/-- The record of a slot just completed (R41). -/
theorem completeWith_slot_self (s : State) (i : SlotId) (sl : Slot) (r : ResultStatus) : (s.completeWith i sl r).slot
    i = some (sl.completed r s.notices.newest s.params.discardTime) := by
  simp [State.slot, State.completeWith]

theorem completeSlot_slot_ne (s : State) (i j : SlotId) (r : ResultStatus) (h : j ≠ i) : (s.completeSlot i r).slot j =
    s.slot j := by
  unfold State.completeSlot; split
  · exact completeWith_slot_ne _ _ _ _ _ h
  · rfl

theorem completeBarrier_slot_ne (s : State) (i j : SlotId) (h : j ≠ i) : (s.completeBarrier i).slot j = s.slot j := by
  unfold State.completeBarrier; split
  · exact completeWith_slot_ne _ _ _ _ _ h
  · rfl

/-- A slot that is no WAITING BARRIER is left by the completion of barriers. -/
theorem completeBarriers_keeps_slot (s : State) (i : SlotId) (sl : Slot) (hs : s.slot i = some sl)
    (h : sl.req ≠ .barrier ∨ sl.state ≠ .waiting) : s.completeBarriers.slot i = some sl := by
  unfold State.completeBarriers
  refine foldl_invariant (fun t : State => t.slot i = some sl) _ ?_ _ _ hs
  intro t j ht
  split
  · rename_i hc
    by_cases hij : i = j
    · subst hij
      unfold State.clearBarrier at hc
      rw [ht] at hc
      simp at hc
      rcases h with h | h
      · exact absurd hc.1.2 h
      · exact absurd hc.1.1 h
    · rw [completeBarrier_slot_ne _ _ _ hij]; exact ht
  · exact ht

theorem popHead_keeps_slot (s : State) (q : HeadedQueue) (i : SlotId) (sl : Slot) (hs : s.slot i = some sl)
    (h : sl.req ≠ .barrier ∨ sl.state ≠ .waiting) (hp : sl.postingStamp = none) : (s.popHead q).slot i = some sl := by
  unfold State.popHead
  apply completeBarriers_keeps_slot _ _ _ _ h
  simp only [State.slot, Drt.mapSlots] at hs ⊢
  rw [Fin.getElem_fin, Vector.getElem_map]
  rw [Fin.getElem_fin] at hs
  rw [hs]
  simp [Slot.clearStamp, hp]

theorem dropAbsentHeads_keeps_slot (i : SlotId) (sl : Slot) (h : sl.req ≠ .barrier ∨ sl.state ≠ .waiting)
    (hp : sl.postingStamp = none) : ∀ (fuel : Nat) (s : State), s.slot i = some sl →
        (State.dropAbsentHeads fuel s).slot i = some sl := by
  intro fuel
  induction fuel with
  | zero => intro s hs; exact hs
  | succ fuel ih =>
    intro s hs
    unfold State.dropAbsentHeads
    split
    · exact hs
    · split
      · apply ih; unfold State.discardHead; exact popHead_keeps_slot _ _ _ _ hs h hp
      · exact hs

/-- A slot that is not looked at with an ABSENT node is left by the search (R32). -/
theorem offerSlot_keeps_slot (i : SlotId) (r : Slot) : ∀ (l : List SlotId) (s : State), s.slot i = some r →
    (i ∈ l → s.offerAbsent i = false) → (State.offerSlot l s).1.slot i = some r := by
  intro l
  induction l with
  | nil => intro s hs _; exact hs
  | cons a rest ih =>
    intro s hs ha
    unfold State.offerSlot
    split
    · rename_i hc
      have hne : i ≠ a := by intro h; subst h; rw [ha (by simp)] at hc; cases hc
      apply ih
      · rw [completeSlot_slot_ne _ _ _ _ hne]; exact hs
      · intro hi
        have := ha (by simp [hi])
        unfold State.offerAbsent State.reqAbsent at *
        rw [completeSlot_slot_ne _ _ _ _ hne]
        rw [hs] at this ⊢
        simp only at this ⊢
        split
        · rename_i h2; rw [h2] at this; unfold State.absent at *; rw [node_congr (State.completeSlot_nodes _ _ _)];
            exact this
        · rfl
    · exact hs

/-- The candidate comes from the list. -/
theorem offerSlot_mem : ∀ (l : List SlotId) (s : State) (i : SlotId), (State.offerSlot l s).2 = some i → i ∈ l := by
  intro l
  induction l with
  | nil => intro s i h; cases h
  | cons a rest ih =>
    intro s i h
    unfold State.offerSlot at h
    split at h
    · simp [ih _ _ h]
    · cases h; simp

theorem completeSlot_isSome (s : State) (i j : SlotId) (r : ResultStatus) (h : (s.slot j).isSome = true) :
    ((s.completeSlot i r).slot j).isSome = true := by
  unfold State.completeSlot
  split
  · rename_i sl hsl
    by_cases hij : i = j
    · subst hij; simp [State.slot, State.completeWith]
    · have : (s.completeWith i sl r).slot j = s.slot j := by
        simp only [State.slot, State.completeWith]; rw [Fin.getElem_fin, Fin.getElem_fin, Vector.getElem_set_ne];
            exact fun h => hij (Fin.ext h)
      rw [this]; exact h
  · exact h

/-- The candidate slot is not FREE. -/
theorem offerSlot_isSome : ∀ (l : List SlotId) (s : State), (∀ j ∈ l, (s.slot j).isSome = true) → ∀ i,
    (State.offerSlot l s).2 = some i → ((State.offerSlot l s).1.slot i).isSome = true := by
  intro l
  induction l with
  | nil => intro s _ i h; cases h
  | cons a rest ih =>
    intro s hs i h
    unfold State.offerSlot at h ⊢
    split at h
    · rename_i hc; rw [if_pos hc]
      exact ih _ (fun j hj => completeSlot_isSome _ _ _ _ (hs j (by simp [hj]))) i h
    · rename_i hc; rw [if_neg hc]; cases h; exact hs a (by simp)

theorem offerList_isSome (s : State) : ∀ j ∈ s.offerList, (s.slot j).isSome = true := by
  intro j hj
  unfold State.offerList at hj
  rw [List.mem_append] at hj
  rcases hj with h | h
  · have := (List.mem_filter.mp h).2
    unfold State.idleActive at this
    cases hs : s.slot j <;> simp_all
  · have := (List.mem_filter.mp h).2
    unfold State.eligible at this
    cases hs : s.slot j <;> simp_all

theorem resetSlot_slot_ne (s : State) (i j : SlotId) (h : j ≠ i) : (s.resetSlot i).slot j = s.slot j := by
  unfold State.resetSlot
  split
  · rfl
  · split
    · split
      · exact completeBarrier_slot_ne _ _ _ h
      · exact completeWith_slot_ne _ _ _ _ _ h
    · exact completeWith_slot_ne _ _ _ _ _ h
    · unfold State.freeSlot; exact slot_set_ne s i j _ _ h
    · rfl

/-- A slot outside the list is left by the reset of the listed slots. -/
theorem resetFold_slot (l : List SlotId) (j : SlotId) (h : j ∉ l) : ∀ s : State, (l.foldl State.resetSlot s).slot j =
    s.slot j := by
  induction l with
  | nil => intro s; rfl
  | cons a r ih =>
    intro s; rw [List.foldl_cons, ih (by simp at h; exact h.2), resetSlot_slot_ne _ _ _ (by simp at h; exact h.1)]

theorem resetSlot_ready (s : State) (i j : SlotId) (h : j ≠ i) (hj : j ∈ s.notices.ready) : j ∈
    (s.resetSlot i).notices.ready := by
  have hc : ∀ (t : State) (sl : Slot) (r : ResultStatus), j ∈ t.notices.ready → j ∈
      (t.completeWith i sl r).notices.ready := by
    intro t sl r ht; unfold State.completeWith; simp only; split
    · simp [NoticeBlock.addHint, allSlots, ht]
    · exact ht
  unfold State.resetSlot
  split
  · exact hj
  · split
    · split
      · unfold State.completeBarrier; split
        · exact hc _ _ ResultStatus.ok hj
        · exact hj
      · exact hc _ _ _ hj
    · exact hc _ _ _ hj
    · simp [State.freeSlot, NoticeBlock.removeHint, hj, h]
    · exact hj

theorem resetFold_ready (l : List SlotId) (j : SlotId) (h : j ∉ l) : ∀ s : State, j ∈ s.notices.ready → j ∈
    (l.foldl State.resetSlot s).notices.ready := by
  induction l with
  | nil => intro s hs; exact hs
  | cons a r ih =>
    intro s hs; rw [List.foldl_cons]; exact ih (by simp at h; exact h.2) _
        (resetSlot_ready _ _ _ (by simp at h; exact h.1) hs)

theorem resetSlot_order (s : State) (i : SlotId) : ∀ j ∈ (s.resetSlot i).drt.order, j ∈ s.drt.order ∧
    (j = i → (s.slot i = none ∨ ∃ sl, s.slot i = some sl ∧ sl.state = .complete)) := by
  intro j hj
  have hc : ∀ (sl : Slot) (r : ResultStatus), j ∈ (s.completeWith i sl r).drt.order → j ∈ s.drt.order ∧ j ≠ i := by
    intro sl r h; have := List.mem_filter.mp h; simpa using this
  unfold State.resetSlot at hj
  split at hj
  · rename_i h; exact ⟨hj, fun _ => Or.inl h⟩
  · rename_i sl h
    split at hj
    · split at hj
      · unfold State.completeBarrier at hj; split at hj
        · obtain ⟨a, b⟩ := hc _ _ hj; exact ⟨a, fun h => absurd h b⟩
        · rename_i h2; rw [h] at h2; cases h2
      · obtain ⟨a, b⟩ := hc _ _ hj; exact ⟨a, fun h => absurd h b⟩
    · obtain ⟨a, b⟩ := hc _ _ hj; exact ⟨a, fun h => absurd h b⟩
    · have := List.mem_filter.mp hj; simp at this; exact ⟨this.1, fun h => absurd h this.2⟩
    · rename_i hst; exact ⟨hj, fun _ => Or.inr ⟨sl, h, hst⟩⟩

/-- The reset of slots adds nothing to the delayed order list. -/
theorem resetFold_order (l : List SlotId) : ∀ s : State, ∀ j ∈ (l.foldl State.resetSlot s).drt.order, j ∈ s.drt.order
    := by
  induction l with
  | nil => intro s j h; exact h
  | cons a r ih => intro s j h; rw [List.foldl_cons] at h; exact (resetSlot_order _ _ j (ih _ j h)).1

end Sys2Proof.Laws
end

