-- ==== Sys2Proof/Laws/Heads.lean ====
section
/-!
SUPPORT. What leaving, discarding and checking a head do to the queue, the counters and the notices.
-/

namespace Sys2Proof.Laws

open Sys2Proof.Machine Sys2Proof.Safety

/-- Nothing is discarded while the head is not that of an ABSENT node (R16). -/
theorem checkHead_of_headChecked {s : State} (h : HeadChecked s) : s.checkHead = s := by
  unfold State.checkHead
  cases hq : s.pwq.queue with
  | none => unfold Pwq.entries; rw [hq]; rfl
  | some q =>
    unfold Pwq.entries; rw [hq]
    show State.dropAbsentHeads (q.behind.length + 1) s = s
    unfold State.dropAbsentHeads
    rw [hq]; simp only
    rw [if_neg]
    rintro ⟨h1, h2⟩
    rw [h q hq h1] at h2; cases h2

theorem headChecked_of_not_ready {s : State} {q : HeadedQueue} (h : s.pwq.queue = some q) (hf : q.headState ≠ .ready)
    : HeadChecked s := by
  intro q' h' hr; rw [h] at h'; cases h'; exact absurd hr hf

/-- The head alone leaves (R11). -/
theorem popHead_entries (s : State) (q : HeadedQueue) : (s.popHead q).pwq.entries = q.behind := by
  unfold Pwq.entries; rw [State.popHead_pwq_queue]; cases q.behind <;> rfl

/-- The counters of posted writes and of failed transactions. -/
def tallies (c : Counters) : Count32 × Count32 × Count32 × Count32 :=
    (c.postedLost, c.postedDelivered, c.garbled, c.noResponses)

theorem completeWith_tallies (s : State) (i : SlotId) (sl : Slot) (r : ResultStatus) : tallies
    (s.completeWith i sl r).counters = tallies s.counters := rfl

theorem popHead_tallies (s : State) (q : HeadedQueue) : tallies (s.popHead q).counters = tallies s.counters := by
  unfold State.popHead State.completeBarriers
  rw [foldl_keeps (fun t : State => tallies t.counters)]
  intro t a
  split
  · unfold State.completeBarrier; split
    · rfl
    · rfl
  · rfl

theorem discardHead_entries (s : State) (q : HeadedQueue) (r : LossReason) : (s.discardHead q r).pwq.entries =
    q.behind := by
  unfold State.discardHead; exact popHead_entries _ _

theorem discardHead_contents (s : State) (q : HeadedQueue) (r : LossReason) : contents (s.discardHead q r).notices =
    contents (s.notices.enterFault (q.head.lostDetail r)) := by
  unfold contents State.discardHead; rw [State.popHead_notices_queue]

theorem discardHead_tallies (s : State) (q : HeadedQueue) (r : LossReason) : tallies (s.discardHead q r).counters =
    tallies { s.counters with postedLost := s.counters.postedLost + 1 } := by
  unfold State.discardHead; rw [popHead_tallies]

theorem discardHead_nodes (s : State) (q : HeadedQueue) (r : LossReason) : (s.discardHead q r).nodes = s.nodes := by
  unfold State.discardHead; rw [State.popHead_nodes]

/-- The discards of R16: k entries leave from the front, each counted as lost, and no notice is removed. -/
theorem dropAbsentHeads_spec : ∀ (fuel : Nat) (s : State), ∃ k,
    (State.dropAbsentHeads fuel s).pwq.entries = s.pwq.entries.drop k ∧
        (State.dropAbsentHeads fuel s).counters.postedLost = s.counters.postedLost + BitVec.ofNat 32 k ∧
    (State.dropAbsentHeads fuel s).counters.postedDelivered = s.counters.postedDelivered ∧
    (State.dropAbsentHeads fuel s).counters.garbled = s.counters.garbled ∧
    (State.dropAbsentHeads fuel s).counters.noResponses = s.counters.noResponses ∧
    (HeadChecked s → k = 0) ∧ (∀ x ∈ contents s.notices, x ∈ contents (State.dropAbsentHeads fuel s).notices) := by
  intro fuel
  induction fuel with
  | zero => intro s; exact ⟨0, rfl, by simp [State.dropAbsentHeads], rfl, rfl, rfl, fun _ => rfl, fun x h => h⟩
  | succ fuel ih =>
    intro s
    unfold State.dropAbsentHeads
    cases hq : s.pwq.queue with
    | none => exact ⟨0, rfl, by simp, rfl, rfl, rfl, fun _ => rfl, fun x h => h⟩
    | some q =>
      simp only
      split
      · rename_i hc
        obtain ⟨k, h1, h2, h3, h4, h5, _, h6⟩ := ih (s.discardHead q .nodeAbsent)
        have he : (s.discardHead q .nodeAbsent).pwq.entries = q.behind := popHead_entries _ _
        have hn : tallies (s.discardHead q .nodeAbsent).counters = tallies
            { s.counters with postedLost := s.counters.postedLost + 1 } := popHead_tallies _ _
        simp only [tallies, Prod.mk.injEq] at hn
        obtain ⟨n1, n2, n3, n4⟩ := hn
        refine ⟨k + 1, ?_, ?_, ?_, ?_, ?_, ?_, ?_⟩
        · rw [h1, he]; unfold Pwq.entries; rw [hq]; rfl
        · rw [h2, show (s.discardHead q .nodeAbsent).counters.postedLost = s.counters.postedLost + 1 from n1]; rw
            [BitVec.ofNat_add]; bv_omega
        · rw [h3]; exact n2
        · rw [h4]; exact n3
        · rw [h5]; exact n4
        · intro hch; rw [hch q hq hc.1] at hc; cases hc.2
        · intro x hx
          apply h6
          have : contents (s.discardHead q .nodeAbsent).notices = contents
              (s.notices.enterFault (q.head.lostDetail .nodeAbsent)) := by
            unfold contents; unfold State.discardHead; rw [State.popHead_notices_queue]
          rw [this]
          unfold NoticeBlock.enterFault
          split
          · simp [contents] at hx ⊢; left; exact hx
          · exact hx
      · exact ⟨0, rfl, by simp, rfl, rfl, rfl, fun _ => rfl, fun x h => h⟩

/-- The check of R16, with nothing discarded from a checked head. -/
theorem checkHead_spec (d : State) : ∃ k, d.checkHead.pwq.entries = d.pwq.entries.drop k ∧
    d.checkHead.counters.postedLost = d.counters.postedLost + BitVec.ofNat 32 k ∧
    d.checkHead.counters.postedDelivered = d.counters.postedDelivered ∧
    d.checkHead.counters.garbled = d.counters.garbled ∧
    d.checkHead.counters.noResponses = d.counters.noResponses ∧
    (HeadChecked d → k = 0) ∧ (∀ x ∈ contents d.notices, x ∈ contents d.checkHead.notices) := dropAbsentHeads_spec _ _

/-- A fault with room becomes the newest notice and takes the lost-fault count (R145, R146). -/
theorem enterFault_contents (b : NoticeBlock) (d : FaultDetail) (h : b.queue.length < 24) :
  contents (b.enterFault d) = contents b ++ [(b.next, .fault b.lostFaults d)] ∧ (b.enterFault d).next = b.next + 1 ∧
      (b.enterFault d).lostFaults = 0 := by
  unfold NoticeBlock.enterFault
  have hr : b.hasRoom = true := decide_eq_true h
  rw [if_pos hr]
  simp [contents]

/-- A fault without room is counted (R146). -/
theorem enterFault_full (b : NoticeBlock) (d : FaultDetail) (h : 24 ≤ b.queue.length) :
  contents (b.enterFault d) = contents b ∧ (b.enterFault d).next = b.next ∧ (b.enterFault d).lostFaults = min
      (b.lostFaults + 1) 255 := by
  unfold NoticeBlock.enterFault
  have hr : ¬b.hasRoom = true := fun hc => absurd (of_decide_eq_true hc) (by show ¬b.queue.length < 24; omega)
  rw [if_neg hr]
  exact ⟨rfl, rfl, rfl⟩

theorem newest_of_contents {a b : NoticeBlock} (h : contents a = contents b) : a.newest = b.newest := by
  have : ∀ c : NoticeBlock, c.newest = match (contents c).getLast? with | some e => .held e.1 | none => .clear := by
    intro c; unfold NoticeBlock.newest contents; rw [List.getLast?_map]; cases c.queue.getLast? <;> rfl
  rw [this a, this b, h]

end Sys2Proof.Laws
end

