-- ==== Sys2Proof/Laws/Response.lean ====
section
/-!
SUPPORT. Well-formed responses are classified as what they say; where a packet is cut.
-/

namespace Sys2Proof.Laws

open Sys2Proof.Machine Sys2Proof.Safety

/-- A well-formed response whose kind, length and body pass their checks ends at its own length with its own outcome
    (R91 to R94). -/
theorem classify_responseChars (cmd : Command) (code : Byte) (content : List Byte) (k : ResponseKind)
    (hk : responseKind code = some k) (hp : permitted cmd.kind k = true)
    (hl : lengthOk cmd k content.length = true) (h32 : content.length ≤ 32) (hb : bodyFault k content = none) :
    responseLength cmd (responseChars code content) = 5 + content.length ∧ classify cmd (responseChars code content) =
        outcomeOf k content := by
  let mk : Byte → RxChar := fun b => { value := b, stopGood := true }
  let crc := halfBytes (segmentCrc ([code, byte content.length] ++ content))
  have hform : responseChars code content = mk 0x3C :: mk code :: mk (byte content.length) ::
      ((content.map mk) ++ crc.map mk) := by
    simp [responseChars, mk, crc]
  have hbl : (byte content.length).toNat = content.length := byte_toNat (by omega)
  have hd : declared cmd (mk code) (mk (byte content.length)) = .ok (k, content.length) := by
    unfold declared; simp [mk, hk, hp, hbl, hl]
  have hg : ∀ l : List Byte, (l.map mk).map (·.value) = l := by intro l; rw [List.map_map]; exact List.map_id l
  have ht : ((content.map mk ++ crc.map mk).take content.length).map (·.value) = content := by
    rw [List.take_left' (by simp)]; exact hg _
  have hdr : (((content.map mk ++ crc.map mk).drop content.length).take 2).map (·.value) = crc := by
    rw [List.drop_left' (by simp), List.take_of_length_le (by simp [crc, halfBytes])]; exact hg _
  have hall : (content.map mk ++ crc.map mk).all (·.stopGood) = true := by
    simp [List.all_append, List.all_map, mk, Function.comp_def]
  have hff : firstFault cmd (responseChars code content) = none := by
    rw [hform]; unfold firstFault
    simp only [hd, hall, ht, hb, hdr]
    simp [mk, crc]
  constructor
  · rw [hform]; simp only [responseLength, hd]
  · unfold classify; rw [hff, hform]; simp only [hd, ht]

theorem responseChars_length (code : Byte) (content : List Byte) : (responseChars code content).length = 5 +
    content.length := by
  simp [responseChars, halfBytes]; omega

/-- RESPONSE_END with the characters of a response that is classified as o. -/
theorem exec_responseEnd_of_classified {s : State} {x : Transaction} (hi : InPhase s x .receiving)
    (chars : List RxChar) (code : Byte) (content : List Byte) (o : SegOutcome)
   (hc : x.received ++ chars = responseChars code content)
       (hl : responseLength x.cmd (responseChars code content) = 5 + content.length)
   (ho : classify x.cmd (responseChars code content) = o) : exec (.responseEnd chars) s = .next
       (s.classified x o).arbitrate := by
  obtain ⟨hh, hx, hp⟩ := hi
  show Host.Outcome.next _ = _
  rw [State.event_of_running hh]
  have : s.inPhase .receiving = some x := by simp [State.inPhase, hx, hp]
  simp only [this, State.respond, hc, hl]
  rw [if_pos (by rw [responseChars_length]), List.take_of_length_le (by rw [responseChars_length]), ho]

/-- A cut packet is not empty, stays inside one block, and ends at the data or at the block (R9). -/
theorem cutLength_spec (size start rem : Nat) (hs : 0 < size) (hr : 1 ≤ rem) : 1 ≤ cutLength size start rem ∧
    cutLength size start rem ≤ rem ∧
   start / size = (start + cutLength size start rem - 1) / size ∧
       (cutLength size start rem = rem ∨ (start + cutLength size start rem) % size = 0) := by
  unfold cutLength
  have hm := Nat.mod_lt start hs
  have hd := Nat.div_add_mod start size
  refine ⟨by omega, by omega, ?_, ?_⟩
  · symm
    rw [Nat.div_eq_iff hs]
    constructor
    · rw [Nat.mul_comm]; omega
    · rw [Nat.mul_comm]; omega
  · by_cases h : rem ≤ size - start % size
    · left; omega
    · right
      rw [show min rem (size - start % size) = size - start % size by omega]
      rw [show start + (size - start % size) = size * (start / size) + size by omega]
      simp

end Sys2Proof.Laws
end

