-- ==== Sys2Proof/Laws/Schedule.lean ====
section
/-!
SUPPORT. What one decision of the scheduler does to each block, and what delivering an outcome leaves alone.
-/

namespace Sys2Proof.Laws

open Sys2Proof.Machine Sys2Proof.Safety

/-- One decision. -/
theorem schedule_of_idle (s : State) (h1 : s.seg.state = .running) (h2 : s.engine.txn = none) :
    s.schedule = (State.offerSlot s.removeAbsentMembers.offerList s.removeAbsentMembers).1.grantNext
        (State.offerSlot s.removeAbsentMembers.offerList s.removeAbsentMembers).2 := by
  unfold State.schedule; rw [if_pos ⟨h1, h2⟩]

/-- Whom a decision grants, and the share counters after it (R78, R79). -/
theorem grantNext_spec (u : State) (d : Option SlotId) (hd : ∀ i, d = some i → (u.slot i).isSome = true)
    (ht : u.engine.txn = none) :
    let g := chooseGrant u.sched u.params u.candidateP d.isSome u.candidateC.isSome
    (u.grantNext d).engine.txn.map (·.requester) = (match g with
      | none => none
      | some .p => some .p
      | some .d => d.map Requester.d
      | some .c => some .c) ∧
    (u.grantNext d).sched = (match g with
      | none => u.sched
      | some g => u.sched.afterGrant g d.isSome u.candidateC.isSome) := by
  intro g
  unfold State.grantNext
  cases hg : g with
  | none => rw [show chooseGrant u.sched u.params u.candidateP d.isSome u.candidateC.isSome = none from hg]; simp [ht]
  | some w =>
    rw [show chooseGrant u.sched u.params u.candidateP d.isSome u.candidateC.isSome = some w from hg]
    have hg2 : chooseGrant u.sched u.params u.candidateP d.isSome u.candidateC.isSome = some w := hg
    unfold chooseGrant at hg2
    cases w with
    | p =>
      have hp : u.candidateP = true := by
        by_contra h
        simp only [Bool.not_eq_true] at h
        rw [h] at hg2
        simp at hg2
        (repeat' split at hg2) <;> simp_all
      unfold State.candidateP at hp
      cases hq : u.pwq.queue with
      | none => rw [hq] at hp; cases hp
      | some q => simp only [State.grant, hq]; exact ⟨rfl, rfl⟩
    | d =>
      have hp : d.isSome = true := by
        by_contra h
        simp only [Bool.not_eq_true] at h
        rw [h] at hg2
        simp at hg2
        (repeat' split at hg2) <;> simp_all
      cases hdd : d with
      | none => rw [hdd] at hp; cases hp
      | some i =>
        have := hd i hdd
        cases hs : u.slot i with
        | none => rw [hs] at this; cases this
        | some sl =>
          simp only [State.grant]
          rw [show State.slot { u with sched := u.sched.afterGrant .d (some i).isSome u.candidateC.isSome } i = some
              sl from hs]
          exact ⟨rfl, rfl⟩
    | c =>
      have hp : u.candidateC.isSome = true := by
        by_contra h
        simp only [Bool.not_eq_true] at h
        rw [h] at hg2
        simp at hg2
        (repeat' split at hg2) <;> simp_all
      cases hc : u.candidateC with
      | none => rw [hc] at hp; cases hp
      | some o =>
        cases o with
        | fetch n => simp only [State.grant]; exact ⟨rfl, rfl⟩
        | survey => simp only [State.grant]; exact ⟨rfl, rfl⟩

theorem grantNext_keeps_slot (u : State) (d : Option SlotId) (i : SlotId) (r : Slot) (hs : u.slot i = some r)
    (hd : d = some i → r.state = .active) : (u.grantNext d).slot i = some r := by
  unfold State.grantNext
  split
  · exact hs
  · unfold State.grant
    split
    · split
      · exact hs
      · exact hs
    · cases d with
      | none => exact hs
      | some j =>
        simp only
        split
        · rename_i sl hsl
          by_cases hij : i = j
          · subst hij
            have : sl = r := by
              have h2 : u.slot i = some sl := hsl
              rw [hs] at h2; cases h2; rfl
            subst this
            have hr := hd rfl
            simp only [State.grantSlot, State.startTransaction]
            refine (slot_set_self _ i _ _).trans ?_
            rw [← hr]
          · simp only [State.grantSlot, State.startTransaction]
            exact (slot_set_ne _ j i _ _ hij).trans hs
        · exact hs
    · split <;> exact hs

/-- The scheduler leaves a COMPLETE slot, and an ACTIVE one whose node does not stop it. -/
theorem schedule_keeps_slot (s : State) (i : SlotId) (r : Slot) (hs : s.slot i = some r)
    (h : r.state = .complete ∨ r.state = .active ∧ s.reqAbsent r.req = false) : s.schedule.slot i = some r := by
  unfold State.schedule
  split
  · simp only
    have hl : i ∈ s.removeAbsentMembers.offerList → r.state = .active := by
      intro hi
      rcases h with h | h
      · exfalso
        unfold State.offerList at hi
        rcases List.mem_append.mp hi with hi | hi
        · have := (List.mem_filter.mp hi).2
          unfold State.idleActive at this
          rw [show s.removeAbsentMembers.slot i = some r from hs] at this
          simp [h] at this
        · have := (List.mem_filter.mp hi).2
          unfold State.eligible at this
          rw [show s.removeAbsentMembers.slot i = some r from hs] at this
          simp [h] at this
      · exact h.1
    apply grantNext_keeps_slot
    · refine offerSlot_keeps_slot i r s.removeAbsentMembers.offerList s.removeAbsentMembers hs ?_
      intro hi
      rcases h with h | h
      · have := hl hi; rw [h] at this; cases this
      · unfold State.offerAbsent
        rw [show s.removeAbsentMembers.slot i = some r from hs]
        exact h.2
    · intro hd; exact hl (offerSlot_mem _ _ _ hd)
  · exact hs

/-- The scheduler adds nothing to the delayed order list. -/
theorem schedule_order (s : State) (i : SlotId) (h : i ∉ s.drt.order) : i ∉ s.schedule.drt.order := by
  have ho : ∀ (l : List SlotId) (t : State), i ∉ t.drt.order → i ∉ (State.offerSlot l t).1.drt.order := by
    intro l; induction l with
    | nil => intro t h; exact h
    | cons a r ih =>
      intro t h; unfold State.offerSlot; split
      · apply ih; unfold State.completeSlot; split
        · intro hm; exact h (List.mem_of_mem_filter hm)
        · exact h
      · exact h
  have hg : ∀ (u : State) (d : Option SlotId), i ∉ u.drt.order → i ∉ (u.grantNext d).drt.order := by
    intro u d h; unfold State.grantNext; split
    · exact h
    · unfold State.grant; split
      · split <;> exact h
      · split
        · split
          · intro hm; exact h (List.mem_of_mem_filter hm)
          · exact h
        · exact h
      · split <;> exact h
  unfold State.schedule
  split
  · exact hg _ _ (ho _ _ h)
  · exact h

theorem startTransaction_tallies (s : State) (r : Requester) (c : Command) : tallies (s.startTransaction r c).counters
    = tallies s.counters := by
  simp only [State.startTransaction]; split <;> rfl

theorem offerSlot_tallies : ∀ (l : List SlotId) (t : State), tallies (State.offerSlot l t).1.counters = tallies
    t.counters := by
    intro l; induction l with
    | nil => intro t; rfl
    | cons a r ih =>
      intro t; unfold State.offerSlot; split
      · rw [ih]; unfold State.completeSlot; split
        · exact completeWith_tallies _ _ _ _
        · rfl
      · rfl

theorem grantNext_tallies (u : State) (d : Option SlotId) : tallies (u.grantNext d).counters = tallies u.counters :=
    by
    unfold State.grantNext; split
    · rfl
    · unfold State.grant; split
      · split
        · exact startTransaction_tallies _ _ _
        · rfl
      · split
        · split
          · exact startTransaction_tallies _ _ _
          · rfl
        · rfl
      · split
        · exact startTransaction_tallies _ _ _
        · exact startTransaction_tallies _ _ _
        · rfl

theorem schedule_tallies (s : State) : tallies s.schedule.counters = tallies s.counters := by
  unfold State.schedule
  split
  · simp only
    rw [grantNext_tallies, offerSlot_tallies]; rfl
  · rfl

/-- The scheduler counts no loss, no delivery and no failure. -/
theorem schedule_counters (s : State) : s.schedule.counters.postedLost = s.counters.postedLost ∧
    s.schedule.counters.postedDelivered = s.counters.postedDelivered ∧ s.schedule.counters.garbled =
        s.counters.garbled ∧ s.schedule.counters.noResponses = s.counters.noResponses := by
  have := schedule_tallies s
  simp only [tallies, Prod.mk.injEq] at this
  exact this

/-- The scheduler takes no entry from the queue. -/
theorem schedule_entries (s : State) : s.schedule.pwq.entries = s.pwq.entries := by
  unfold State.schedule
  split
  · simp only
    have : ∀ (u : State) (d : Option SlotId), (u.grantNext d).pwq.entries = u.pwq.entries := by
      intro u d; unfold State.grantNext; split
      · rfl
      · unfold State.grant; split
        · split
          · rename_i q hq; simp only [State.grantHead, State.startTransaction]; unfold Pwq.entries; simp only; rw
              [show u.pwq.queue = some q from hq]
          · rfl
        · split
          · split <;> rfl
          · rfl
        · split <;> rfl
    rw [this]; simp
  · rfl

/-- The scheduler adds no member. -/
theorem schedule_members (s : State) : ∀ m ∈ s.schedule.attn.members, m ∈ s.attn.members := by
  unfold State.schedule
  split
  · simp only
    have : ∀ (u : State) (d : Option SlotId), (u.grantNext d).attn.members = u.attn.members := by
      intro u d; unfold State.grantNext; split
      · rfl
      · unfold State.grant; split
        · split <;> rfl
        · split
          · split <;> rfl
          · rfl
        · split <;> rfl
    rw [this]; intro m hm
    rw [State.offerSlot_attn] at hm
    exact (List.mem_filter.mp hm).1
  · exact fun m h => h

theorem grantNext_attention (u : State) (d : Option SlotId) : (u.grantNext d).attn.members = u.attn.members ∧
    (u.grantNext d).attn.holdoff = u.attn.holdoff := by
  unfold State.grantNext; split
  · exact ⟨rfl, rfl⟩
  · unfold State.grant; split
    · split <;> exact ⟨rfl, rfl⟩
    · split
      · split <;> exact ⟨rfl, rfl⟩
      · exact ⟨rfl, rfl⟩
    · split <;> exact ⟨rfl, rfl⟩

/-- With no ABSENT member the scheduler leaves the attention set. -/
theorem schedule_attention (s : State) (h : ∀ m ∈ s.attn.members, s.absent m.node = false) : s.schedule.attn.members =
    s.attn.members ∧ s.schedule.attn.holdoff = s.attn.holdoff := by
  unfold State.schedule
  split
  · simp only
    rw [(grantNext_attention _ _).1, (grantNext_attention _ _).2, State.offerSlot_attn]
    refine ⟨?_, rfl⟩
    unfold State.removeAbsentMembers
    simp only
    rw [List.filter_eq_self]
    intro m hm; rw [h m hm]; rfl
  · exact ⟨rfl, rfl⟩

theorem schedule_contents (s : State) : contents s.schedule.notices = contents s.notices := by unfold contents; simp

/-- The arbiter removes no notice and changes no payload. -/
theorem arbitrate_contents (s : State) : contents s.arbitrate.notices = contents s.notices := by
  have tk : ∀ q : List Notice, (takeFirstUnsent q).map (fun e => (e.number, e.payload)) = q.map
      (fun e => (e.number, e.payload)) := by
    intro q; induction q with
    | nil => rfl
    | cons e rest ih => simp only [takeFirstUnsent]; split <;> simp [Notice.taken, ih]
  rcases s.arbitrate_cases with h | h | h | ⟨r, _, h⟩ | ⟨e, _, h⟩ | ⟨i, rest, sl, _, _, h⟩ <;> rw [h]
  · rfl
  · rfl
  · rfl
  · exact tk _
  · rfl

/-- The arbiter adds no hint. -/
theorem arbitrate_ready (s : State) : ∀ i ∈ s.arbitrate.notices.ready, i ∈ s.notices.ready := by
  rcases s.arbitrate_cases with h | h | h | ⟨r, _, h⟩ | ⟨e, _, h⟩ | ⟨i, rest, sl, _, _, h⟩ <;> rw [h]
  · exact fun i h => h
  · exact fun i h => h
  · exact fun i h => h
  · exact fun i h => h
  · exact fun i h => h
  · intro j hj; simp [State.sendHint, NoticeBlock.removeHint] at hj; exact hj.1

theorem arbitrate_numbers (s : State) : s.arbitrate.notices.next = s.notices.next ∧ s.arbitrate.notices.lostFaults =
    s.notices.lostFaults := by
  rcases s.arbitrate_cases with h | h | h | ⟨r, _, h⟩ | ⟨e, _, h⟩ | ⟨i, rest, sl, _, _, h⟩ <;> rw [h] <;> exact
      ⟨rfl, rfl⟩

theorem release_schedule_arbitrate (u : State) : (u.release).schedule.arbitrate = released u := rfl

/-- The counters of failed transactions. -/
def misses (c : Counters) : Count32 × Count32 := (c.noResponses, c.garbled)

theorem headOutcome_misses (s : State) (c : Command) (o : SegOutcome) : misses (s.headOutcome c o).counters = misses
    s.counters := by
  have hk : ∀ {a b : Counters}, tallies a = tallies b → misses a = misses b := by
    intro a b h; simp only [tallies, Prod.mk.injEq] at h; simp [misses, h]
  have hc : ∀ d : State, misses d.checkHead.counters = misses d.counters := by
    intro d; obtain ⟨k, _, _, _, h4, h5, _⟩ := checkHead_spec d; simp [misses, h4, h5]
  have hd : ∀ (g : State) (q : HeadedQueue) (r : LossReason), misses (g.discardHead q r).counters = misses g.counters
      := by
    intro g q r; exact (hk (discardHead_tallies g q r)).trans rfl
  have hr : ∀ (g : State) (q : HeadedQueue) (m : Bool), misses (g.headRetry q m).counters = misses g.counters := by
    intro g q m; unfold State.headRetry; simp only; split
    · rw [hc, hd]
    · rfl
  unfold State.headOutcome
  split
  · rfl
  · split
    · unfold State.headAck; simp only; split
      · unfold State.headDelivered; rw [hc, hk (popHead_tallies _ _)]; rfl
      · rw [hc]
    · exact hr _ _ _
    · rw [hc, hd]
    · split
      · rw [hc, hd]
      · exact hr _ _ _
    all_goals exact hr _ _ _

theorem slotOutcome_misses (s : State) (i : SlotId) (c : Command) (o : SegOutcome) : misses
    (s.slotOutcome i c o).counters = misses s.counters := by
  have hr : ∀ (g : State) (i : SlotId) (sl : Slot) (m : Bool), misses (g.slotRetry i sl m).counters = misses
      g.counters := by
    intro g i q m; unfold State.slotRetry; simp only; split <;> rfl
  have ha : ∀ (g : State) (i : SlotId) (sl : Slot) (m : Bool), misses (g.slotAdvance i sl m).counters = misses
      g.counters := by
    intro g i q m; unfold State.slotAdvance; split <;> rfl
  unfold State.slotOutcome
  split
  · rfl
  · split
    · rfl
    · unfold State.activeOutcome
      split
      · exact hr _ _ _ _
      · split
        · rfl
        · unfold State.slotSilence; split
          · rfl
          · exact hr _ _ _ _
      · split
        · exact hr _ _ _ _
        · rfl
      · split
        · exact ha _ _ _ _
        · exact hr _ _ _ _
      · split
        · exact ha _ _ _ _
        · exact ha _ _ _ _
        · exact hr _ _ _ _
      · split
        · rfl
        · exact hr _ _ _ _
      all_goals exact hr _ _ _ _
    · rfl
    · rfl

theorem fetchOutcome_keeps_counters (s : State) (n : NodeId) (o : SegOutcome) : (s.fetchOutcome n o).counters =
    s.counters := by
  simp

/-- Delivering an outcome does not count a failure again (R107). -/
theorem deliver_misses (s : State) (x : Transaction) (o : SegOutcome) : misses (s.deliver x o).counters = misses
    s.counters := by
  unfold State.deliver
  have h1 : ∀ u : State, misses u.schedule.counters = misses u.counters := by
    intro u; obtain ⟨_, _, a, b⟩ := schedule_counters u; simp [misses, a, b]
  rw [h1]
  show misses (State.granteeOutcome _ x o).counters = _
  have hc : ∀ d : State, misses d.checkHead.counters = misses d.counters := by
    intro d; obtain ⟨k, _, _, _, h4, h5, _⟩ := checkHead_spec d; simp [misses, h4, h5]
  have hg : ∀ u : State, misses (u.granteeOutcome x o).counters = misses u.counters := by
    intro u; unfold State.granteeOutcome; split
    · exact headOutcome_misses _ _ _
    · exact slotOutcome_misses _ _ _ _
    · split
      · rw [fetchOutcome_keeps_counters]
      · rfl
      · rfl
  rw [hg, hc]; simp

/-- After the Node Table has taken the outcome, only a REPORT changes it. -/
theorem deliver_nodes (s : State) (x : Transaction) (o : SegOutcome) (h : x.requester = .c → o = .noResponse) :
    (s.deliver x o).nodes = (s.nodeOutcome x.cmd o).nodes := by
  unfold State.deliver
  rw [State.schedule_nodes]
  show (State.granteeOutcome _ x o).nodes = _
  unfold State.granteeOutcome
  split
  · simp
  · simp
  · rename_i hr; rw [h hr]; split <;> simp [State.fetchOutcome]

end Sys2Proof.Laws
end

