-- ==== Sys2Proof/Tests/Slice0.lean ====
section
/-!
SUPPORT. The model's own tests: the operand check, the checks of R194 on their published values, one step of a few
commands, and for every statement of Sys2Proof/Certificates/Slice0/Obligations.lean states and operands that meet its
hypotheses, each clause at a boundary where it has one.
-/

namespace Sys2Proof.Tests

set_option Elab.async false

open Sys2Proof.Machine Sys2Proof.Safety

/-! ### Small states -/

/-- A part on a RUNNING segment, its transmitter idle, HELLO sent, nothing accepted. -/
def idle : State :=
  { State.reset with
    seg := { state := .running, hold := none, settle := none, cause := .powerOn, bitRate := some 2 }
    segRst := false
    link := { State.reset.link with helloOffered := false } }

/-- s with one WAITING frame in the buffer. -/
def asked (s : State) (type : Byte) (payload : List Byte) : State :=
  { s with link := { s.link with places := [{ frame := { seq := 7, type := type, payload := payload }, state := .waiting }] } }

theorem executes_asked {s : State} (type : Byte) (payload : List Byte)
    (h : s.held = none ∧ s.link.stopped = false ∧ s.link.store = []) : Executes (asked s type payload) 7 type payload := by
  obtain ⟨h1, h2, h3⟩ := h
  exact ⟨h1, h2, rfl, by show s.link.store.find? _ = none; rw [h3]; rfl⟩

/-- s with a node's record replaced. -/
def noded (s : State) (n : NodeId) (f : NodeRecord → NodeRecord) : State := s.setNode n (f (s.node n))

/-- A queue of k entries of len bytes, all to node 5. -/
def queued (s : State) (k len : Nat) : State :=
  { s with pwq :=
      { queue := headedBy ((List.range k).map fun j =>
          { number := BitVec.ofNat 16 j, target := some 4, addr := 0x0100, data := List.replicate len 0, delivered := 0,
            attempts := 0, originSeq := 0 })
        nextNumber := BitVec.ofNat 16 k, lossCount := 0 } }

/-- A Notice Queue of k faults, the first sent of them SENT. -/
def noticed (s : State) (k sent : Nat) : State :=
  { s with notices := { s.notices with
      queue := (List.range k).map fun j =>
        { number := BitVec.ofNat 16 j, payload := .fault 0 (.linkOverrun 0),
          state := if j < sent then .sent else .unsent, sendCount := 0 }
      next := BitVec.ofNat 16 k
      resend := if sent = 0 then none else some 200 } }

/-- A transaction record. -/
def txnOf (r : Requester) (c : Command) (p : Phase) : Transaction :=
  { requester := r, cmd := c, phase := p, driven := if p = .sending then some c.packet else none, windowDeadline := none,
    received := [] }

/-- s with a transaction under way. -/
def busy (s : State) (x : Transaction) : State := { s with engine := { txn := some x, turnaround := none } }

/-- A READ_REGS slot of node 5, as it is filled. -/
def readSlot : Slot := Slot.filled (.readRegs 4 0x0010 8) false none

/-- A READ_BLOCK slot of node 5 with four fetched bytes, one handed over. -/
def blockSlot : Slot :=
  { Slot.filled (.readBlock 4 0 256) false none with
    state := .active, data := [1, 2, 3, 4], fetchCursor := 4, deliveryCursor := 1, dataStamp := .clear }

/-- s with one slot filled. -/
def slotted (s : State) (i : SlotId) (sl : Slot) : State := s.setSlot i (some sl)

/-- s with every slot filled alike. -/
def crowded (s : State) (sl : Slot) : State := { s with drt := { s.drt with slots := Vector.replicate 8 (some sl) } }

theorem noLiveMatch_of {s : State} {req : DelayedReq} (h : ∀ j : SlotId, s.matchesKey req j = false) :
    NoLiveMatch s req := by
  intro j sl hs hl he
  have := h j
  unfold State.matchesKey at this
  rw [hs] at this
  simp [hl, he] at this

theorem keysDistinct_of {d : Drt} (h : ∀ i j : SlotId, i = j ∨ d.slots[i] = none ∨ d.slots[j] = none) :
    KeysDistinct d := by
  intro i j a b ha hb _ _ _
  rcases h i j with h | h | h
  · exact h
  · rw [ha] at h; cases h
  · rw [hb] at h; cases h

/-- The WR of a posted packet of 4 bytes to node 5. -/
def wr4 : Command :=
  { kind := .wr, target := .node 4, regAddr := 0x0100, length := 4, data := [0, 0, 0, 0], repeatFlag := false, toggle := false }

/-! ### The operand check, one ill-formed command for each check -/

theorem test_wf_payload_too_long : (Instr.postWrite 1 (List.replicate 281 0)).wf = false := by decide +kernel
theorem test_wf_payload_longest : (Instr.postWrite 1 (List.replicate 280 0)).wf = true := by decide +kernel
theorem test_wf_known_type : (Instr.unknownTypeRequest 1 0x01 []).wf = false := by decide
theorem test_wf_no_characters : (Instr.frameReceived []).wf = false ∧ (Instr.badFrame []).wf = false := by decide
theorem test_wf_no_response : (Instr.responseEnd []).wf = false := by decide
theorem test_wf_response_too_long :
    (Instr.responseEnd (List.replicate 38 { value := 0, stopGood := true })).wf = false := by decide
theorem test_wf_train_too_close :
    (Instr.surveyTrainEnd [{ time := 12, char := { value := 0xF0, stopGood := true } },
      { time := 21, char := { value := 0xF0, stopGood := true } }]).wf = false := by decide
theorem test_wf_train_too_late :
    (Instr.surveyTrainEnd [{ time := 372, char := { value := 0xF0, stopGood := true } }]).wf = false := by decide

/-! ### Formats -/

/-- The two checks over the characters 1 to 9, the values R194 gives. -/
theorem test_crc_check_values :
    hostCrc [0x31, 0x32, 0x33, 0x34, 0x35, 0x36, 0x37, 0x38, 0x39] = 0x29B1 ∧
    segmentCrc [0x31, 0x32, 0x33, 0x34, 0x35, 0x36, 0x37, 0x38, 0x39] = 0xFEE8 := by decide +kernel

theorem test_no_word_spells_a_command : decodeTableWord 16 0x0001 = none := by decide

/-- A FETCH to node 5 with the toggle and the repeat flag set: address byte 65h. -/
theorem test_fetch_address_byte :
    Command.addressByte { kind := .fetch, target := .node 4, regAddr := 0, length := 0, data := [], repeatFlag := true,
                          toggle := true } = 0x65 := by decide

/-! ### One step -/

theorem test_empty_queue_idles : step State.reset = .next State.reset := rfl

theorem test_hello_after_power_on :
    (State.reset.partReset .powerOn 2).link.tx.map (·.bytes) =
      some ([0xA5, 0, 5, 0, 0x83, 1, 2, 1] ++ halfBytes (hostCrc [0, 5, 0, 0x83, 1, 2, 1])) := by decide +kernel

/-- A frame is received, executed and answered. -/
theorem test_frame_placed :
    (idle.takeChars (frameBytes 7 0x35 [])).link.places =
      [{ frame := { seq := 7, type := 0x35, payload := [] }, state := .waiting }] := by decide +kernel

theorem test_identify_answered : ∃ t : State, exec (.identify 7 []) (asked idle 0x35 []) = .next t ∧
    t.link.tx.map (·.kind) = some .answer :=
  ⟨_, rfl, by decide +kernel⟩

/-- A POST_WRITE into an empty queue of an idle segment goes straight onto the pair. -/
theorem test_post_write_starts : ∃ t : State,
    exec (.postWrite 7 [5, 1, 0, 0xAA]) (asked idle 0x01 [5, 1, 0, 0xAA]) = .next t ∧
    t.engine.txn.map (fun x => (x.requester, x.phase, x.cmd.regAddr, x.cmd.data)) =
      some (.p, .sending, 0x0100, [0xAA]) :=
  ⟨_, rfl, by decide +kernel⟩

/-- The packet of that write is on the pair: sync C3h, address 5, kind 01h, register address 0100h, length 1, the byte, and
the CRC over address to data (R192). -/
theorem test_packet_on_pair : ∃ t : State,
    exec (.postWrite 7 [5, 1, 0, 0xAA]) (asked idle 0x01 [5, 1, 0, 0xAA]) = .next t ∧
    t.engine.txn.bind (·.driven) =
      some ([0xC3, 5, 1, 1, 0, 1, 0xAA] ++ halfBytes (segmentCrc [5, 1, 1, 0, 1, 0xAA])) :=
  ⟨_, rfl, by decide +kernel⟩

/-! ### Hypotheses that can be met: requests -/

theorem test_meets_InvalidRequestRefused :
    (requestTypes.contains 0x00 = false ∧ Executes (asked idle 0x00 []) 7 0x00 []) ∧
    ∀ row ∈ requestRows 7 (List.replicate 40 0xFF), fieldsOk row.2 (List.replicate 40 0xFF) = false ∧
      Executes (asked idle row.2 (List.replicate 40 0xFF)) 7 row.2 (List.replicate 40 0xFF) := by
  refine ⟨⟨by decide, executes_asked _ _ (by decide)⟩, fun row h => ⟨?_, executes_asked _ _ (by decide)⟩⟩
  revert row; decide +kernel

theorem test_meets_RefusalChangesOnlyTheCounter :
    (∃ t : State, (Instr.getParam 7 [14], 0x33) ∈ requestRows 7 [14] ∧ Executes (asked idle 0x33 [14]) 7 0x33 [14] ∧
      exec (.getParam 7 [14]) (asked idle 0x33 [14]) = .next t ∧
      t.link.store.getLast? = some { seq := 7, type := 0x33, answer := .refused .badParam }) ∧
    (∃ t : State, requestTypes.contains 0x7F = false ∧ Executes (asked idle 0x7F []) 7 0x7F [] ∧
      exec (.unknownTypeRequest 7 0x7F []) (asked idle 0x7F []) = .next t ∧
      t.link.store.getLast? = some { seq := 7, type := 0x7F, answer := .refused .badType }) :=
  ⟨⟨_, by decide, executes_asked _ _ (by decide), rfl, by decide +kernel⟩,
   ⟨_, by decide, executes_asked _ _ (by decide), rfl, by decide +kernel⟩⟩

/-- The operands at the edges of R189: the last address is 65,535. -/
theorem test_meets_RequestPayloadsParse :
    postWriteOperands ([5, 0xFF, 0xC0] ++ List.replicate 64 0) = some (4, 0xFFC0, List.replicate 64 0) ∧
    postWriteOperands ([5, 0xFF, 0xC1] ++ List.replicate 64 0) = none ∧
    broadcastOperands ([0xFF, 0xE0] ++ List.replicate 32 0) = some (0xFFE0, List.replicate 32 0) ∧
    confirmWriteOperands ([30, 1, 0xFF, 0xFF] ++ [9]) = some (.confirmWrite 29 0xFFFF [9], true) ∧
    readRegsOperands [1, 0, 0xFF, 0xE0, 32] = some (.readRegs 0 0xFFE0 32, false) ∧
    readBlockOperands [1, 0, 0xFF, 0x00, 1, 0] = some (.readBlock 0 0xFF00 256, false) ∧
    readBlockOperands [1, 0, 0xFF, 0x01, 1, 0] = none ∧
    setParamOperands [255, 0xFF, 0xFF] = some (255, 0xFFFF) ∧ getParamOperands [0] = none := by decide +kernel

/-- A data length of 64 at the byte limit, into a queue with room for one entry and into an empty one. -/
theorem test_meets_PostWriteAccepted :
    (let s := asked (queued idle 15 64) 0x01 (nodeByte 4 :: halfBytes 0xFFC0 ++ List.replicate 64 0)
     Executes s 7 0x01 (nodeByte 4 :: halfBytes 0xFFC0 ++ List.replicate 64 0) ∧ (s.node 4).postable = true ∧
      (s.node 4).presence ≠ .absent ∧ s.pwq.entries.length < 16 ∧ s.pwq.bytes + 64 ≤ 1024 ∧ s.pwq.queue.isSome = true) ∧
    (let s := asked idle 0x01 (nodeByte 4 :: halfBytes 0 ++ [1])
     Executes s 7 0x01 (nodeByte 4 :: halfBytes 0 ++ [1]) ∧ (s.node 4).postable = true ∧
      (s.node 4).presence ≠ .absent ∧ s.pwq.entries.length < 16 ∧ s.pwq.bytes + 1 ≤ 1024 ∧ s.pwq.queue = none) :=
  ⟨⟨executes_asked _ _ (by decide +kernel), by decide +kernel⟩, ⟨executes_asked _ _ (by decide), by decide +kernel⟩⟩

theorem test_meets_PostWriteRefused :
    (let s := asked (noded idle 4 fun r => { r with postable := false }) 0x01
        (nodeByte 4 :: halfBytes 0 ++ List.replicate 33 0)
     Executes s 7 0x01 (nodeByte 4 :: halfBytes 0 ++ List.replicate 33 0) ∧ (s.node 4).postable = false) ∧
    (let s := asked (noded idle 4 fun r => { r with presence := .absent }) 0x01 (nodeByte 4 :: halfBytes 0 ++ [1])
     Executes s 7 0x01 (nodeByte 4 :: halfBytes 0 ++ [1]) ∧ (s.node 4).postable = true ∧
      (s.node 4).presence = .absent) ∧
    (let s := asked (queued idle 16 1) 0x01 (nodeByte 4 :: halfBytes 0 ++ [1])
     Executes s 7 0x01 (nodeByte 4 :: halfBytes 0 ++ [1]) ∧ (s.node 4).postable = true ∧
      (s.node 4).presence ≠ .absent ∧ 16 ≤ s.pwq.entries.length) ∧
    (let s := asked (queued idle 15 64) 0x01 (nodeByte 4 :: halfBytes 0 ++ List.replicate 65 0)
     s.pwq.entries.length < 16 ∧ 1024 < s.pwq.bytes + 65) :=
  ⟨⟨executes_asked _ _ (by decide), by decide +kernel⟩, ⟨executes_asked _ _ (by decide), by decide +kernel⟩,
   ⟨executes_asked _ _ (by decide +kernel), by decide +kernel⟩, by decide +kernel⟩

theorem test_meets_PostWriteHandedOver :
    (let s := asked (noded idle 4 fun r => { r with postable := false }) 0x01
        (nodeByte 4 :: halfBytes 0xFFE0 ++ List.replicate 32 0)
     Executes s 7 0x01 (nodeByte 4 :: halfBytes 0xFFE0 ++ List.replicate 32 0) ∧ (s.node 4).postable = false) ∧
    (let s := asked idle 0x10 ([nodeByte 4, 0] ++ halfBytes 0 ++ [1])
     Executes s 7 0x10 ([nodeByte 4, 0] ++ halfBytes 0 ++ [1])) :=
  ⟨⟨executes_asked _ _ (by decide), by decide +kernel⟩, executes_asked _ _ (by decide)⟩

theorem test_meets_BroadcastWriteTaken :
    (let s := asked (queued idle 15 64) 0x02 (halfBytes 0xFFE0 ++ List.replicate 32 0)
     Executes s 7 0x02 (halfBytes 0xFFE0 ++ List.replicate 32 0) ∧ s.pwq.entries.length < 16 ∧
      s.pwq.bytes + 32 ≤ 1024) ∧
    (let s := asked (queued idle 16 1) 0x02 (halfBytes 0 ++ [1])
     Executes s 7 0x02 (halfBytes 0 ++ [1]) ∧ 16 ≤ s.pwq.entries.length) :=
  ⟨⟨executes_asked _ _ (by decide +kernel), by decide +kernel⟩,
   ⟨executes_asked _ _ (by decide +kernel), by decide +kernel⟩⟩

/-- Seven slots taken by one PROBE_NODE record, slot 7 FREE. -/
def nearlyFull : State :=
  { idle with drt :=
      { slots := (Vector.replicate 8 (some (Slot.filled (.probeNode 29) false none))).set 7 none, order := [] } }

theorem lowestFree_nearlyFull : LowestFree nearlyFull 7 := ⟨by decide +kernel, by decide +kernel⟩

/-- Slot 0 and slot 7 as the lowest FREE one, and each of the four kinds. -/
theorem test_meets_NewDelayedRequestWaits :
    LowestFree idle 0 ∧ LowestFree nearlyFull 7 ∧
    (let p := [nodeByte 4, 0] ++ halfBytes 0x0010 ++ [1]
     (Instr.confirmWrite 7 p, 0x10, some (.confirmWrite 4 0x0010 [1], false)) ∈ nodeRequestRows 7 p ∧
      Executes (asked nearlyFull 0x10 p) 7 0x10 p ∧ NoLiveMatch (asked nearlyFull 0x10 p) (.confirmWrite 4 0x0010 [1]) ∧
      State.reqAbsent (asked nearlyFull 0x10 p) (.confirmWrite 4 0x0010 [1]) = false) ∧
    (let p := [nodeByte 4, 1] ++ halfBytes 0x0010 ++ [32]
     (Instr.readRegs 7 p, 0x11, some (.readRegs 4 0x0010 32, true)) ∈ nodeRequestRows 7 p) ∧
    (let p := [nodeByte 4, 1] ++ halfBytes 0x0010 ++ [1, 0]
     (Instr.readBlock 7 p, 0x12, some (.readBlock 4 0x0010 256, true)) ∈ nodeRequestRows 7 p) ∧
    (let p := [nodeByte 4, 1]
     (Instr.probeNode 7 p, 0x13, some (.probeNode 4, true)) ∈ nodeRequestRows 7 p ∧
      State.reqAbsent (noded nearlyFull 4 fun r => { r with presence := .absent }) (.probeNode 4) = false) :=
  ⟨⟨by decide +kernel, by decide +kernel⟩, lowestFree_nearlyFull,
   ⟨by decide +kernel, executes_asked _ _ (by decide), noLiveMatch_of (by decide +kernel), by decide +kernel⟩,
   by decide +kernel, by decide +kernel, by decide +kernel⟩

theorem test_meets_DelayedRequestRefused :
    (let s := asked (noded idle 4 fun r => { r with presence := .absent }) 0x11 [5, 0, 0, 16, 8]
     (Instr.readRegs 7 [5, 0, 0, 16, 8], 0x11, some (.readRegs 4 0x0010 8, false)) ∈ delayedRows 7 [5, 0, 0, 16, 8] ∧
      Executes s 7 0x11 [5, 0, 0, 16, 8] ∧ NoLiveMatch s (.readRegs 4 0x0010 8) ∧ (s.node 4).presence = .absent) ∧
    (let s := asked (crowded idle (Slot.filled (.probeNode 29) false none)) 0x14 [0]
     (Instr.barrier 7 [0], 0x14, some (.barrier, false)) ∈ delayedRows 7 [0] ∧ Executes s 7 0x14 [0] ∧
      NoLiveMatch s .barrier ∧ ∀ j : SlotId, (s.slot j).isSome = true) :=
  ⟨⟨by decide +kernel, executes_asked _ _ (by decide), noLiveMatch_of (by decide +kernel), by decide +kernel⟩,
   ⟨by decide +kernel, executes_asked _ _ (by decide), noLiveMatch_of (by decide +kernel), by decide +kernel⟩⟩

/-- Behind posted writes, with no notice, and with 24 of them. -/
theorem test_meets_BarrierTaken :
    (let s := asked (queued nearlyFull 16 64) 0x14 [flagByte true]
     Executes s 7 0x14 [flagByte true] ∧ NoLiveMatch s .barrier ∧ LowestFree s 7 ∧ s.pwq.queue.isSome = true) ∧
    (let s := asked idle 0x14 [flagByte false]
     Executes s 7 0x14 [flagByte false] ∧ NoLiveMatch s .barrier ∧ LowestFree s 0 ∧ s.pwq.queue = none ∧
      s.notices.queue = []) ∧
    (let s := asked (noticed idle 24 4) 0x14 [flagByte true]
     Executes s 7 0x14 [flagByte true] ∧ NoLiveMatch s .barrier ∧ LowestFree s 0 ∧ s.pwq.queue = none ∧
      s.notices.queue.getLast?.isSome = true) :=
  ⟨⟨executes_asked _ _ (by decide +kernel), noLiveMatch_of (by decide +kernel), ⟨by decide +kernel, by decide +kernel⟩,
    by decide +kernel⟩,
   ⟨executes_asked _ _ (by decide), noLiveMatch_of (by decide +kernel), ⟨by decide +kernel, by decide +kernel⟩,
    by decide +kernel⟩,
   ⟨executes_asked _ _ (by decide +kernel), noLiveMatch_of (by decide +kernel), ⟨by decide +kernel, by decide +kernel⟩,
    by decide +kernel⟩⟩

/-- The one slot of these repeats is slot 3. -/
def repeated (sl : Slot) : State := asked (slotted idle 3 sl) 0x11 [5, 0, 0, 16, 8]

theorem repeated_meets (sl : Slot) :
    (Instr.readRegs 7 [5, 0, 0, 16, 8], 0x11, some (.readRegs 4 0x0010 8, false)) ∈ delayedRows 7 [5, 0, 0, 16, 8] ∧
    Executes (repeated sl) 7 0x11 [5, 0, 0, 16, 8] ∧ KeysDistinct (repeated sl).drt ∧ (repeated sl).slot 3 = some sl :=
  ⟨by decide +kernel, executes_asked _ _ ⟨rfl, rfl, rfl⟩,
   keysDistinct_of (by
    intro i j
    have h : ∀ k : SlotId, k ≠ 3 → (repeated sl).drt.slots[k] = none := by
      intro k hk
      show ((Vector.replicate 8 (none : Option Slot)).set 3 (some sl))[k] = none
      rw [Fin.getElem_fin, Vector.getElem_set, if_neg (fun h => hk (Fin.ext h.symm))]
      simp
    by_cases hi : i = 3
    · by_cases hj : j = 3
      · exact Or.inl (hi.trans hj.symm)
      · exact Or.inr (Or.inr (h j hj))
    · exact Or.inr (Or.inl (h i hi))),
   by simp [repeated, asked, slotted, State.setSlot, State.slot]⟩

/-- For each clause the slot record; repeated_meets gives the rest. -/
theorem test_meets_RepeatOfRunningSlotDeferred :
    readSlot.req = .readRegs 4 0x0010 8 ∧ readSlot.state = .waiting ∧
    ({ readSlot with state := SlotState.active }).state = .active ∧
    (∃ x : Transaction, (busy (repeated { readSlot with state := .active })
      (txnOf (.d 3) wr4 .listening)).engine.txn = some x ∧ x.requester = .d 3) ∧
    (∀ x : Transaction, (repeated { readSlot with state := .active }).engine.txn = some x → x.requester ≠ .d 3) :=
  ⟨rfl, rfl, rfl, ⟨_, rfl, rfl⟩, fun _ h => by cases h⟩

/-- The stamp clear and held; for each kind the record a RESULT is read from is reached by the row of that kind. -/
theorem test_meets_CompleteSlotCollected :
    (∀ req ∈ [DelayedReq.confirmWrite 4 0 [1], .readRegs 4 0x0010 8, .readBlock 4 0 256, .probeNode 4, .barrier],
      ∃ p : List Byte, ∃ row ∈ delayedRows 7 p, row.2.2 = some (req, false)) ∧
    (let sl := readSlot.completed .ok .clear 0
     sl.req = .readRegs 4 0x0010 8 ∧ sl.state = .complete ∧ sl.dataStamp = .clear ∧ (repeated sl).slot 3 = some sl) ∧
    (let sl := readSlot.completed .ok (.held 65535) 0
     sl.req = .readRegs 4 0x0010 8 ∧ sl.state = .complete ∧ sl.dataStamp = .held 65535 ∧
      (repeated sl).slot 3 = some sl) :=
  ⟨by
    intro req h
    simp only [List.mem_cons, List.not_mem_nil, or_false] at h
    rcases h with h | h | h | h | h <;> subst h
    · exact ⟨[5, 0, 0, 0, 1], by decide +kernel⟩
    · exact ⟨[5, 0, 0, 16, 8], by decide +kernel⟩
    · exact ⟨[5, 0, 0, 0, 1, 0], by decide +kernel⟩
    · exact ⟨[5, 0], by decide +kernel⟩
    · exact ⟨[0], by decide +kernel⟩,
   ⟨rfl, rfl, rfl, (repeated_meets _).2.2.2⟩, ⟨rfl, rfl, rfl, (repeated_meets _).2.2.2⟩⟩

theorem test_meets_PartialHandsOverBytes :
    readBlockOperands [5, 1, 0, 0, 1, 0] = some (.readBlock 4 0 256, true) ∧
    (let s := asked (slotted idle 3 blockSlot) 0x12 [5, 1, 0, 0, 1, 0]
     Executes s 7 0x12 [5, 1, 0, 0, 1, 0] ∧ KeysDistinct s.drt ∧ s.slot 3 = some blockSlot) ∧
    blockSlot.req = .readBlock 4 0 256 ∧ blockSlot.state = .active ∧ blockSlot.deliveryCursor < blockSlot.fetchCursor ∧
    blockSlot.data.length = blockSlot.fetchCursor ∧ blockSlot.dataStamp = .clear ∧
    ({ blockSlot with dataStamp := .held 9 }).dataStamp = .held 9 :=
  ⟨by decide +kernel, ⟨executes_asked _ _ (by decide +kernel), keysDistinct_of (by decide +kernel), by decide +kernel⟩,
   by decide +kernel⟩

theorem test_meets_CancelSlotFrees :
    (∀ i : SlotId, Executes (asked idle 0x15 [slotByte i]) 7 0x15 [slotByte i] ∧
      (asked idle 0x15 [slotByte i]).slot i = none) ∧
    (∀ st : SlotState, (repeated { readSlot with state := st }).slot 3 = some { readSlot with state := st }) ∧
    (∀ x : Transaction, (repeated { readSlot with state := .active }).engine.txn = some x → x.requester ≠ .d 3) ∧
    (∃ x : Transaction, (busy (repeated { readSlot with state := .active })
      (txnOf (.d 3) wr4 .sending)).engine.txn = some x ∧ x.requester = .d 3) :=
  ⟨fun i => ⟨executes_asked _ _ (by decide), by revert i; decide +kernel⟩, fun _ => (repeated_meets _).2.2.2,
   fun _ h => (by cases h), ⟨_, rfl, rfl⟩⟩

/-- The distances 1, 2, 24, 25, 32,768 and 32,769 and 0 of R152, on a queue of 24 with two SENT. -/
theorem test_meets_NoticeAckTable :
    (∀ n : Half, Executes (asked (noticed idle 24 2) 0x20 (halfBytes n)) 7 0x20 (halfBytes n)) ∧
    NoticesOk (noticed idle 24 2).notices ∧
    (∃ (before after : List Notice) (e : Notice), (noticed idle 24 2).notices.queue = before ++ e :: after ∧
      e.number = 1 ∧ e.state = .sent) ∧
    (∃ (before after : List Notice) (e : Notice), (noticed idle 24 2).notices.queue = before ++ e :: after ∧
      e.number = 23 ∧ e.state = .unsent) ∧
    ((noticed idle 24 2).notices.next - 65535).toNat = 25 ∧ ((noticed idle 24 2).notices.next - 24).toNat = 0 ∧
    ((noticed idle 24 2).notices.next - 32792).toNat = 32768 ∧
    ((noticed idle 24 2).notices.next - 32791).toNat = 32769 ∧
    (∀ e ∈ (noticed idle 24 2).notices.queue, e.number ≠ 65535 ∧ e.number ≠ 24 ∧ e.number ≠ 32792 ∧ e.number ≠ 32791) :=
  ⟨fun n => executes_asked _ _ (by decide +kernel), by unfold NoticesOk; decide +kernel,
   ⟨(noticed idle 24 2).notices.queue.take 1, (noticed idle 24 2).notices.queue.drop 2, _, rfl, by decide +kernel⟩,
   ⟨(noticed idle 24 2).notices.queue.take 23, [], _, rfl, by decide +kernel⟩, by decide +kernel⟩

/-- For SetNodeWrites, ReadRequestsAnswer, IdentifyAnswers and GetParamReads. -/
theorem test_meets_LocalRequests :
    Executes (asked idle 0x30 [nodeByte 29, flagByte true, byte PacketSize.p8.bytes, flagByte true]) 7 0x30
      [nodeByte 29, flagByte true, byte PacketSize.p8.bytes, flagByte true] ∧
    Executes (asked idle 0x31 [nodeByte 0]) 7 0x31 [nodeByte 0] ∧ Executes (asked idle 0x34 []) 7 0x34 [] ∧
    Executes (asked idle 0x35 [0]) 7 0x35 [0] ∧ Executes (asked idle 0x35 []) 7 0x35 [] ∧
    Executes (asked idle 0x33 [0]) 7 0x33 [0] ∧ Executes (asked idle 0x33 [14]) 7 0x33 [14] ∧
    Executes (asked idle 0x33 [ParamId.surveyHoldoff.code]) 7 0x33 [ParamId.surveyHoldoff.code] :=
  ⟨executes_asked _ _ (by decide), executes_asked _ _ (by decide), executes_asked _ _ (by decide),
   executes_asked _ _ (by decide), executes_asked _ _ (by decide), executes_asked _ _ (by decide),
   executes_asked _ _ (by decide), executes_asked _ _ (by decide)⟩

/-- Ids 14 and 13; for every row both ends of its range and their neighbours outside it; and DISCARD_TIME at 0, where two
ways into the range do not meet. -/
theorem test_meets_SetParamStores :
    (∀ (b : Byte) (v : Half), Executes (asked idle 0x32 (b :: halfBytes v)) 7 0x32 (b :: halfBytes v)) ∧
    14 ≤ (14 : Byte).toNat ∧ paramRows.map (·.2.1) = (List.range 13).map (fun k => byte (k + 1)) ∧
    (∀ row ∈ paramRows, row.2.1 ≠ 0 ∧ row.2.2.1 ≤ row.2.2.2 ∧ row.2.2.2 ≤ 65535 ∧
      row.1.allows row.2.2.1 = true ∧ row.1.allows row.2.2.2 = true ∧ row.1.allows (row.2.2.2 + 1) = false) ∧
    (ParamId.discardTime, (4 : Byte), 100, 60000) ∈ paramRows ∧ ¬(100 ≤ (0 : Half).toNat) ∧
    ¬((100 ≤ (99 : Half).toNat ∧ (99 : Half).toNat ≤ 60000) ∨ (99 : Half) = 0) :=
  ⟨fun _ _ => executes_asked _ _ (by decide), by decide +kernel⟩

theorem test_meets_SegmentResetTaken :
    (Executes (asked idle 0x3E []) 7 0x3E [] ∧ idle.seg.state ≠ .resetting) ∧
    (let s : State := { idle with seg := State.reset.seg }
     Executes (asked s 0x3E []) 7 0x3E [] ∧ s.seg.state = .resetting) :=
  ⟨⟨executes_asked _ _ (by decide), by decide⟩, ⟨executes_asked _ _ (by decide), by decide⟩⟩

/-- A table with a slot in each state, a queue of 16 and a Notice Queue of 23. -/
def fullHouse : State :=
  { noticed (queued idle 16 64) 23 1 with drt :=
      { slots := ((((Vector.replicate 8 none).set 0 (some readSlot)).set 1 (some blockSlot)).set 2
          (some { readSlot with state := .orphaned })).set 7 (some (readSlot.completed .ok (.held 22) 100))
        order := [0] } }

theorem test_meets_ResettingEntryResetsBlocks :
    OrderOk fullHouse.drt ∧ fullHouse.pwq.queue.isSome = true ∧ fullHouse.notices.queue.length < 24 ∧
    (List.finRange 8).map (fun i => (fullHouse.slot i).map (·.state)) =
      [some .waiting, some .active, some .orphaned, none, none, none, none, some .complete] ∧ idle.pwq.queue = none ∧
    (∀ i : SlotId, (match fullHouse.slot i with
      | some sl => sl.req != .barrier
      | none => true) = true) :=
  ⟨⟨by decide +kernel, by decide +kernel⟩, by decide +kernel⟩

/-- A BARRIER that waits, its key the only one, with entries queued and without; and 24 notices with entries queued. -/
theorem test_meets_ResettingEntryReadsLoss :
    (let sl := Slot.filled .barrier true (some 15)
     let s := slotted (noticed (queued idle 16 64) 24 4) 7 sl
     OrderOk { s.drt with order := [7] } ∧ KeysDistinct s.drt ∧ s.slot 7 = some sl ∧ sl.state = .waiting ∧
      sl.req = .barrier ∧ s.pwq.queue ≠ none ∧ 24 ≤ s.notices.queue.length ∧ (slotted idle 7 sl).pwq.queue = none) :=
  ⟨⟨by decide +kernel, by decide +kernel⟩, keysDistinct_of (by decide +kernel), by decide +kernel⟩

theorem test_meets_PartResetStopsDispatcher :
    Executes (asked idle 0x3F []) 7 0x3F [] ∧
    (let s : State := { idle with link := { idle.link with stopped := true } }
     s.held = none ∧ s.link.stopped = true) :=
  ⟨executes_asked _ _ (by decide), by decide⟩

/-! ### Hypotheses that can be met: the link -/

/-- A stored answer. -/
def stored : StoredAnswer := { seq := 7, type := 0x35, answer := .doneIdentify }

/-- A buffer with an answer going out, then an ANSWERED place, then a WAITING one. -/
def threePlaces : List Place :=
  [{ frame := { seq := 5, type := 0x35, payload := [] }, state := .sending { stored with seq := 5 } },
   { frame := { seq := 6, type := 0x35, payload := [] }, state := .answered { stored with seq := 6 } },
   { frame := { seq := 7, type := 0x35, payload := [] }, state := .waiting }]

def linked (l : Link) : State := { idle with link := l }

theorem test_meets_ReplayAnswersFromStore :
    let s := linked { idle.link with places := threePlaces, store := [stored] }
    s.held = none ∧ s.link.stopped = false ∧ s.link.stored 7 = some stored ∧
    s.link.places = threePlaces.take 2 ++
      { frame := { seq := 7, type := 0x35, payload := [] }, state := .waiting } :: [] ∧
    (∀ p ∈ threePlaces.take 2, p.state ≠ .waiting) ∧ (Instr.identify 7 [], 0x35) ∈ requestRows 7 [] := by
  decide +kernel

/-- A full store, and the four cases of the line. -/
theorem test_meets_AnswerStoredAndPlaced :
    (let s := linked { idle.link with places := threePlaces, store := List.replicate 8 stored }
     s.held = none ∧ s.link.store.length = 8 ∧
      s.link.places = threePlaces.take 2 ++ { frame := { seq := 7, type := 0x35, payload := [] }, state := .waiting } :: [] ∧
      (∀ p ∈ threePlaces.take 2, p.state ≠ .waiting)) ∧
    ({ idle.link with tx := some { kind := .linkNak, bytes := [] } }).tx ≠ none ∧
    idle.link.tx = none ∧ ({ idle.link with helloOffered := true }).helloOffered = true ∧
    ({ idle.link with nakPending := true }).nakPending = true ∧ idle.link.helloOffered = false ∧
    idle.link.nakPending = false ∧
    (∀ p ∈ threePlaces.take 1, p.state = .sending { stored with seq := 5 }) := by
  decide +kernel

theorem test_meets_ArbiterPreference :
    idle.held = none ∧ (idle.link.tx = none ∧ idle.link.helloOffered = false ∧ idle.link.nakPending = false) ∧
    (threePlaces = threePlaces.take 1 ++
      { frame := { seq := 6, type := 0x35, payload := [] }, state := .answered { stored with seq := 6 } } ::
        threePlaces.drop 2 ∧
      ∀ p ∈ threePlaces.take 1, p.state = .sending { stored with seq := 5 }) ∧
    idle.link.places = [] ∧
    (∃ (before after : List Notice) (e : Notice), (noticed idle 24 3).notices.queue = before ++ e :: after ∧
      e.state = .unsent ∧ (∀ x ∈ before, x.state = .sent) ∧
      (noticed idle 24 3).notices.sentCount < (noticed idle 24 3).params.noticeWindow) ∧
    (noticed idle 24 4).params.noticeWindow ≤ (noticed idle 24 4).notices.sentCount ∧
    (noticed idle 24 4).notices.ready = [] ∧ (∀ e ∈ (noticed idle 4 4).notices.queue, e.state = .sent) ∧
    (let s := slotted { idle with notices := { idle.notices with ready := [3, 5] } } 3 readSlot
     s.notices.ready = 3 :: [5] ∧ s.slot 3 = some readSlot) :=
  ⟨by decide, by decide, by decide +kernel, by decide,
   ⟨(noticed idle 24 3).notices.queue.take 3, (noticed idle 24 3).notices.queue.drop 4, _, rfl, by decide +kernel⟩,
   by decide +kernel⟩

/-- The longest payload, with three and with four places taken. -/
theorem test_meets_FrameReceivedPlaced :
    (List.replicate 280 (0 : Byte)).length ≤ 280 ∧ idle.held = none ∧ idle.link.framer = .hunt ∧
    (linked { idle.link with places := threePlaces }).link.places.length < 4 ∧
    4 ≤ (linked { idle.link with places := threePlaces ++ threePlaces.take 1 }).link.places.length := by
  decide +kernel

theorem test_meets_BadFrameRaisesNak :
    (0 : Half) ≠ hostCrc (frameCovered 7 0x35 []) ∧ (1 : Half).toNat < 2 ∧ 282 < (283 : Half).toNat ∧
    (linked { idle.link with framer := .length [] }).link.framer ≠ .hunt ∧ idle.link.framer = .hunt ∧
    (linked { idle.link with framer := .length [] }).link.tx = none ∧
    (linked { idle.link with framer := .length [], tx := some { kind := .hint 7, bytes := [] } }).link.tx ≠ none := by
  decide +kernel

theorem test_meets_BreakResetsLink :
    idle.held = none ∧ idle.link.stopped = false ∧ idle.link.framer = .hunt ∧
    (linked { idle.link with stopped := true }).link.stopped = true := by decide

/-- For each clause an outgoing frame, and for an answer its place among others. -/
theorem test_meets_FrameTransmittedFreesLine :
    (∀ k : OutKind, (linked { idle.link with tx := some { kind := k, bytes := [] } }).link.tx =
      some { kind := k, bytes := [] }) ∧ idle.held = none ∧
    (threePlaces = [] ++ { frame := { seq := 5, type := 0x35, payload := [] }, state := .sending { stored with seq := 5 } } ::
        threePlaces.drop 1 ∧
      (∀ p ∈ threePlaces.drop 1, p.state = .answered { stored with seq := 6 } ∨ p.state = .waiting) ∧
      ({ stored with seq := 5 } : StoredAnswer).answer ≠ .donePartReset) ∧
    ({ stored with answer := .donePartReset } : StoredAnswer).answer = .donePartReset :=
  ⟨fun _ => rfl, by decide, by decide, by decide⟩

/-! ### Hypotheses that can be met: resets and the segment -/

def heldState (c : ResetCause) : State := { idle with held := some c }

theorem test_meets_ResetLinesHoldPart :
    (heldState .powerOn).held = some .powerOn ∧ (heldState .pin).held ≠ some .powerOn ∧
    (heldState .pin).held.isSome = true ∧ Instr.holdExpiry ≠ .powerOn ∧ Instr.holdExpiry ≠ .nrstLow ∧
    (∀ lspd : BitVec 2, Instr.holdExpiry ≠ .partResetEnd lspd) := by
  decide

theorem test_meets_PartResetEndSendsHello : (heldState .pin).held = some .pin := rfl

theorem test_meets_HoldExpiryReleasesSegment :
    State.reset.held = none ∧ State.reset.seg.hold = some 10 ∧ State.reset.params.segSettle ≠ 0 ∧
    ({ State.reset.params with segSettle := 0 }).segSettle = 0 := by decide

theorem test_meets_SettleExpiryStartsRunning :
    State.reset.releaseSegment.held = none ∧ State.reset.releaseSegment.seg.settle = some 50 := by decide

/-- The last clause holds with 19 notices, and the segment is idle with and without the turnaround. -/
theorem test_meets_SegAttnFollowsLine :
    let s := noticed idle 19 0
    s.held = none ∧ s.seg.state = .running ∧ s.engine.txn = none ∧ s.attn.members = [] ∧ s.attn.holdoff = none ∧
    s.notices.queue.length ≤ 19 ∧ s.pwq.queue = none ∧ (∀ i : SlotId, s.slot i = none) ∧ s.drt.order = [] := by
  decide +kernel

theorem test_meets_TransactionPhasesAdvance :
    (∀ p : Phase, (busy idle (txnOf .p wr4 p)).engine.txn = some (txnOf .p wr4 p) ∧ (txnOf .p wr4 p).phase = p) ∧
    ({ idle with engine := { txn := none, turnaround := some 20 } } : State).engine.turnaround = some 20 ∧
    idle.held = none ∧ surveyCommand.kind = .survey ∧ ({ wr4 with target := .broadcast }).target = .broadcast :=
  ⟨fun _ => ⟨rfl, rfl⟩, rfl, rfl, rfl, rfl⟩

/-! A transaction's ends. -/

theorem ends_permitted {s : State} {x : Transaction} {code : Byte} {content : List Byte} {o : SegOutcome}
    (h : InPhase s x .receiving) (hr : x.received = []) (hp : Permitted x.cmd code content o) :
    Ends s x (.responseEnd (responseChars code content)) o :=
  ⟨h.1, h.2.1, Or.inr (Or.inr (Or.inr ⟨h.2.2, code, content, _, rfl, by rw [hr]; rfl, hp⟩))⟩

/-- A REFUSE whose reason is 16 reaches its end and is permitted under no code and body. -/
theorem faulty_refuse : Faulty wr4 (responseChars 0x84 [16]) := by
  refine ⟨by decide, ?_⟩
  intro code content o hp he
  have hc : code = 0x84 := by
    have := congrArg (fun l => (l.getD 1 { value := 0, stopGood := true }).value) he
    exact this.symm
  rcases hp with h | h | h | h | h | h | h
  · exact absurd (h.1.symm.trans hc) (by decide)
  · exact absurd (h.1.symm.trans hc) (by decide)
  · exact absurd (h.1.symm.trans hc) (by decide)
  · obtain ⟨_, _, r, hr, _, h15, _⟩ := h
    rw [hr] at he
    have : (16 : Byte) = r := congrArg (fun l => (l.getD 3 { value := 0, stopGood := true }).value) he
    rw [← this] at h15
    exact absurd h15 (by decide)
  · exact absurd (h.1.symm.trans hc) (by decide)
  · exact absurd (h.1.symm.trans hc) (by decide)
  · exact absurd (h.1.symm.trans hc) (by decide)

/-- Every end of a WR's transaction, for each requester. -/
theorem ends_wr (s : State) (r : Requester) (hs : s.held = none) :
    let at_ := fun p => txnOf r wr4 p
    Ends (busy s (at_ .listening)) (at_ .listening) .responseWindowExpiry .noResponse ∧
    Ends (busy s (at_ .receiving)) (at_ .receiving) .responseGapTimeout .garbled ∧
    Ends (busy s (at_ .receiving)) (at_ .receiving) (.responseEnd (responseChars 0x84 [16])) .garbled ∧
    Ends (busy s (at_ .receiving)) (at_ .receiving) (.responseEnd (responseChars 0x81 [])) .ack ∧
    Ends (busy s (at_ .receiving)) (at_ .receiving) (.responseEnd (responseChars 0x83 [])) .wait ∧
    Ends (busy s (at_ .receiving)) (at_ .receiving) (.responseEnd (responseChars 0x84 [15])) (.refuse 15) := by
  have hp : ∀ p : Phase, InPhase (busy s (txnOf r wr4 p)) (txnOf r wr4 p) p := fun p => ⟨hs, rfl, rfl⟩
  refine ⟨⟨hs, rfl, Or.inl ⟨rfl, rfl, rfl⟩⟩, ⟨hs, rfl, Or.inr (Or.inl ⟨rfl, rfl, rfl⟩)⟩,
    ⟨hs, rfl, Or.inr (Or.inr (Or.inl ⟨rfl, rfl, _, rfl, faulty_refuse⟩))⟩,
    ends_permitted (hp .receiving) rfl (Or.inl ⟨rfl, rfl, rfl, rfl⟩),
    ends_permitted (hp .receiving) rfl (Or.inr (Or.inr (Or.inl ⟨rfl, (by decide : wr4.kind ≠ .survey), rfl, rfl⟩))),
    ends_permitted (hp .receiving) rfl
      (Or.inr (Or.inr (Or.inr (Or.inl ⟨rfl, Or.inl rfl, 15, rfl, by decide, by decide, rfl⟩))))⟩

theorem test_meets_SilenceCountsAgainstNode :
    InPhase (busy idle (txnOf .p wr4 .listening)) (txnOf .p wr4 .listening) .listening ∧
    (txnOf .p wr4 .listening).cmd.target = .node 4 ∧
    (txnOf .c (State.fetchCommand idle 4) .listening).requester = .c := by decide +kernel

/-- A head of 4 bytes and one of 8, in flight with a packet of 4. -/
def inFlight (len : Nat) : State :=
  { busy (queued idle 2 len) (txnOf .p wr4 .receiving) with pwq :=
      { (queued idle 2 len).pwq with queue := (queued idle 2 len).pwq.queue.map fun q => { q with headState := .inFlight } } }

theorem test_meets_AckAdvancesHead :
    InPhase (inFlight 4) (txnOf .p wr4 .receiving) .receiving ∧
    (∃ q : HeadedQueue, (inFlight 4).pwq.queue = some q ∧ q.headState = .inFlight ∧ q.head.target = some 4 ∧
      q.head.delivered + wr4.length = q.head.data.length) ∧
    (∃ q : HeadedQueue, (inFlight 5).pwq.queue = some q ∧ q.headState = .inFlight ∧ q.head.target = some 4 ∧
      q.head.delivered + wr4.length < q.head.data.length) ∧
    (txnOf .p wr4 .receiving).received ++ responseChars 0x81 [] = responseChars 0x81 [] :=
  ⟨by decide +kernel, ⟨_, rfl, by decide +kernel⟩, ⟨_, rfl, by decide +kernel⟩, rfl⟩

/-- A part whose invariants hold and whose BARRIER waits for this entry of the sixteen. -/
def barrierBehind (m : Half) : State :=
  { queued idle 16 64 with drt :=
      { slots := (Vector.replicate 8 none).set 7 (some (Slot.filled .barrier true (some m))), order := [7] } }

theorem barrierBehind_meets (m : Half) (hm : m.toNat < 16) : PwqOk (barrierBehind m).pwq ∧ TableOk (barrierBehind m) := by
  have hs : ∀ i : SlotId, (barrierBehind m).drt.slots[i] = if i = 7 then some (Slot.filled .barrier true (some m)) else none := by
    intro i
    show ((Vector.replicate 8 (none : Option Slot)).set 7 (some (Slot.filled .barrier true (some m))))[i] = _
    rw [Fin.getElem_fin, Vector.getElem_set]
    by_cases h : i = 7
    · subst h; rfl
    · rw [if_neg (fun h' => h (Fin.ext h'.symm)), if_neg h]; simp
  have at7 : ∀ (i : SlotId) (sl : Slot), (barrierBehind m).drt.slots[i] = some sl →
      i = 7 ∧ sl = Slot.filled .barrier true (some m) := by
    intro i sl h
    rw [hs i] at h
    split at h
    · rename_i h7; exact ⟨h7, (Option.some.inj h).symm⟩
    · cases h
  refine ⟨by show PwqOk (queued idle 16 64).pwq; unfold PwqOk; decide +kernel, ⟨⟨by show [(7 : SlotId)].Nodup; decide, ?_⟩, ?_, ?_, ?_, ?_⟩⟩
  · intro i
    rw [hs i]
    show i ∈ [(7 : SlotId)] ↔ _
    by_cases h : i = 7
    · subst h; simp [isWaiting, Slot.filled]
    · simp [h, isWaiting]
  · intro i j a b ha hb _ _ _; rw [(at7 i a ha).1, (at7 j b hb).1]
  · intro i sl h _; rw [(at7 i sl h).2]; exact Or.inr ⟨rfl, by intro h; cases h⟩
  · intro i sl k h hk
    rw [(at7 i sl h).2] at hk
    have hk : m = k := Option.some.inj hk
    subst hk
    have all : ∀ j : Fin 16, ∃ e ∈ (queued idle 16 64).pwq.entries, e.number = BitVec.ofNat 16 j.val := by decide +kernel
    obtain ⟨e, he, hn⟩ := all ⟨m.toNat, hm⟩
    exact ⟨e, he, hn.trans (by simp)⟩
  · intro i h; cases h

/-- A BARRIER that waits for the first entry, for the last, and for none of those that leave. -/
theorem test_meets_StampsReleased :
    (PwqOk (barrierBehind 0).pwq ∧ TableOk (barrierBehind 0)) ∧ (PwqOk (barrierBehind 15).pwq ∧ TableOk (barrierBehind 15)) ∧
    (let gone := (barrierBehind 0).pwq.entries.take 1
     (gone[0]?).map (fun e => (some e.number, e.data.length)) = some ((Slot.filled .barrier true (some 0)).postingStamp, 64) ∧
      gone.all (fun e => (Slot.filled .barrier true (some 15)).postingStamp != some e.number) = true) :=
  ⟨barrierBehind_meets 0 (by decide), barrierBehind_meets 15 (by decide), by decide +kernel⟩

/-- The attempt limit at 2 and at 1; every end is that of ends_wr, with the head in flight. -/
theorem test_meets_FailedPacketRetriesHead :
    (∃ q : HeadedQueue, (inFlight 4).pwq.queue = some q ∧ q.headState = .inFlight ∧ q.head.attempts + 1 < 2 ∧
      1 ≤ q.head.attempts + 1) ∧ (noticed idle 23 0).notices.queue.length < 24 ∧
    wr4.target = .node 4 :=
  ⟨⟨_, rfl, by decide +kernel⟩, by decide +kernel⟩

/-- With a queued head and any slots, NO_RESPONSE leaves the node PRESENT below SILENCE_LIMIT and makes it ABSENT at it. -/
theorem test_meets_SilentEnds :
    Ends (inFlight 4) (txnOf .p wr4 .receiving) .responseGapTimeout .garbled ∧
    (∃ t : State, exec .responseWindowExpiry (busy (queued idle 2 4) (txnOf .p wr4 .listening)) = .next t ∧
      (t.node 4).presence ≠ .absent) ∧
    (∃ t : State, exec .responseWindowExpiry
        (busy (noded (queued idle 2 4) 4 fun r => { r with silence := 2 }) (txnOf .p wr4 .listening)) = .next t ∧
      (t.node 4).presence = .absent) :=
  ⟨⟨rfl, rfl, Or.inr (Or.inl ⟨rfl, rfl, rfl⟩)⟩, ⟨_, rfl, by decide +kernel⟩, ⟨_, rfl, by decide +kernel⟩⟩

/-- The other ends of a slot's transaction are those of ends_wr with requester D; here a slot in flight of each kind, its
command, and an IDENT to a PROBE_NODE. -/
theorem test_meets_SlotEnds :
    (let sl : Slot := { Slot.filled (.confirmWrite 4 0x0100 [0, 0, 0, 0]) false none with state := .active }
     (busy (slotted idle 3 sl) (txnOf (.d 3) wr4 .receiving)).slot 3 = some sl ∧ CommandFor sl.req wr4 ∧
      sl.bytesDelivered + wr4.length = 4 ∧ sl.attempts + 1 < 2 ∧ 1 ≤ sl.attempts + 1) ∧
    (let sl : Slot := { Slot.filled (.probeNode 4) false none with state := .active }
     let x := txnOf (.d 3) (State.slotCommand idle sl) .receiving
     CommandFor sl.req x.cmd ∧
      Ends (busy (slotted idle 3 sl) x) x (.responseEnd (responseChars 0x87 [1, 2, 3, 4])) (.ident [1, 2, 3, 4])) ∧
    (({ readSlot with state := .orphaned } : Slot).state = .orphaned ∧ HeadChecked idle) :=
  ⟨⟨by decide +kernel, ⟨rfl, rfl⟩, by decide +kernel⟩,
   ⟨⟨rfl, rfl⟩, ends_permitted ⟨rfl, rfl, rfl⟩ rfl
      (Or.inr (Or.inr (Or.inr (Or.inr (Or.inr (Or.inr ⟨rfl, rfl, rfl, rfl⟩))))))⟩,
   ⟨rfl, fun _ h => by cases h⟩⟩

/-- Every end of a FETCH, to a member among others. -/
theorem test_meets_FetchEnds :
    let s : State := { idle with attn :=
      { members := [{ node := 4, repeatMark := false }, { node := 9, repeatMark := true }], pointer := none,
        holdoff := none } }
    let at_ := fun p => txnOf .c (s.fetchCommand 4) p
    HeadChecked s ∧ s.attn.has 4 = true ∧ (s.node 9).presence ≠ .absent ∧
    Ends (busy s (at_ .listening)) (at_ .listening) .responseWindowExpiry .noResponse ∧
    Ends (busy s (at_ .receiving)) (at_ .receiving) .responseGapTimeout .garbled ∧
    Ends (busy s (at_ .receiving)) (at_ .receiving) (.responseEnd (responseChars 0x86 [])) .empty ∧
    Ends (busy s (at_ .receiving)) (at_ .receiving) (.responseEnd (responseChars 0x83 [])) .wait ∧
    Ends (busy s (at_ .receiving)) (at_ .receiving) (.responseEnd (responseChars 0x84 [1])) (.refuse 1) :=
  ⟨fun _ h => (by cases h), rfl, by decide +kernel, ⟨rfl, rfl, Or.inl ⟨rfl, rfl, rfl⟩⟩,
   ⟨rfl, rfl, Or.inr (Or.inl ⟨rfl, rfl, rfl⟩)⟩,
   ends_permitted ⟨rfl, rfl, rfl⟩ rfl (Or.inr (Or.inr (Or.inr (Or.inr (Or.inr (Or.inl ⟨rfl, rfl, rfl, rfl⟩)))))),
   ends_permitted ⟨rfl, rfl, rfl⟩ rfl
    (Or.inr (Or.inr (Or.inl ⟨rfl, fun h => (by cases h), rfl, rfl⟩))),
   ends_permitted ⟨rfl, rfl, rfl⟩ rfl
    (Or.inr (Or.inr (Or.inr (Or.inl ⟨rfl, Or.inr (Or.inr rfl), 1, rfl, by decide, by decide, rfl⟩))))⟩

/-- A READ_REGS of 8 with 4 and with 8 bytes coming, and a READ_BLOCK up to its last byte. -/
theorem test_meets_DataReachesSlot :
    (let sl : Slot := { readSlot with state := .active }
     let x := txnOf (.d 3) { wr4 with kind := .rd } .receiving
     InPhase (busy (slotted idle 3 sl) x) x .receiving ∧ (busy (slotted idle 3 sl) x).slot 3 = some sl ∧
      sl.state = .active ∧ sl.postingStamp = none ∧ x.cmd.length = [1, 2, 3, (4 : Byte)].length ∧
      x.received ++ responseChars 0x82 [1, 2, 3, 4] = responseChars 0x82 [1, 2, 3, 4] ∧ sl.bytesReceived + 4 < 8 ∧
      ({ sl with bytesReceived := 4 }).bytesReceived + 4 = 8) ∧
    blockSlot.fetchCursor + 4 ≤ 256 ∧ ({ blockSlot with fetchCursor := 252 }).fetchCursor + 4 = 256 := by
  decide +kernel

theorem test_meets_ReportEntersNoticeQueue :
    (let s := noticed idle 23 0
     let x := txnOf .c (State.fetchCommand s 4) .receiving
     InPhase (busy s x) x .receiving ∧ x.requester = .c ∧ x.cmd.kind = .fetch ∧ x.cmd.target = .node 4 ∧
      (List.replicate 16 (0 : Byte)).length ≤ 16 ∧ s.notices.queue.length < 24 ∧ s.pwq.queue = none) ∧
    24 ≤ (noticed idle 24 0).notices.queue.length := by
  decide +kernel

/-- A broadcast of 4 and of 5 bytes. -/
theorem test_meets_BroadcastWindowDelivers :
    let x := txnOf .p { wr4 with target := .broadcast } .window
    InPhase (busy (State.acceptWrite idle none 0 [1, 2, 3, 4] 1).1 x) x .window ∧
    (∀ len ∈ [4, 5], (idle.pwq.append none 0 (List.replicate len 0) 1).queue.map
      (fun q => (q.head.target, decide (q.head.delivered + x.cmd.length = q.head.data.length),
        decide (q.head.delivered + x.cmd.length < q.head.data.length))) = some (none, len == 4, len == 5)) := by
  decide +kernel

/-- The first and last bit times of the slot of node 30, of no slot, and the edge that the slots of nodes 1 and 2 share. -/
theorem test_meets_SurveyMarksNodes :
    (let x := txnOf .c surveyCommand .train
     InPhase (busy idle x) x .train) ∧
    markedNodes [{ time := 360, char := { value := 0xF0, stopGood := true } }] = [29] ∧
    markedNodes [{ time := 371, char := { value := 0, stopGood := false } }] = [29] ∧
    markedNodes [{ time := 11, char := { value := 0xF0, stopGood := true } }] = [] ∧
    markedNodes [{ time := 23, char := { value := 0xF0, stopGood := true } }] = [0] ∧
    markedNodes [{ time := 24, char := { value := 0xF0, stopGood := true } }] = [1] := by
  decide +kernel

/-- Every line of the statement's table, at its longest body. -/
theorem test_meets_GoodResponsesClassified :
    classify wr4 (responseChars 0x81 []) = .ack ∧
    classify { wr4 with kind := .rd, length := 32 } (responseChars 0x82 (List.replicate 32 7)) =
      .data (List.replicate 32 7) ∧
    classify wr4 (responseChars 0x83 []) = .wait ∧ classify wr4 (responseChars 0x84 [15]) = .refuse 15 ∧
    classify { wr4 with kind := .fetch } (responseChars 0x85 ((byte 16 ||| 0x80) :: 9 :: List.replicate 16 1)) =
      .report true 9 (List.replicate 16 1) ∧
    classify { wr4 with kind := .fetch } (responseChars 0x86 []) = .empty ∧
    classify { wr4 with kind := .probe } (responseChars 0x87 [1, 2, 3, 4]) = .ident [1, 2, 3, 4] ∧
    classify wr4 (responseChars 0x84 [16]) = .garbled ∧
    classify { wr4 with kind := .fetch } (responseChars 0x85 [0x61, 9, 1]) = .report false 9 [1] ∧
    endOf wr4 (responseChars 0x84 [16]) = 6 ∧ endOf wr4 (responseChars 0x82 [16]) = 37 ∧
    endOf wr4 (responseChars 0x81 [0]) = 37 := by
  decide +kernel

/-! ### Hypotheses that can be met: the scheduler and the deadlines -/

/-- All three candidates present, with these share counters: P a queued write, D slot 0, C a FETCH. -/
def contended (collect delayed : Nat) : State :=
  { slotted (queued idle 1 4) 0 readSlot with
    sched := { delayedShare := delayed, collectShare := collect }
    drt := { slots := (Vector.replicate 8 none).set 0 (some readSlot), order := [0] }
    attn := { members := [{ node := 9, repeatMark := false }], pointer := none, holdoff := none } }

def granted (s : State) : Option Requester := s.schedule.engine.txn.map (·.requester)

/-- The shares at 4 and 8: each line of R78, and no candidate. -/
theorem test_meets_GrantRule :
    (contended 3 7).seg.state = .running ∧ (contended 3 7).engine.txn = none ∧
    granted (contended 3 7) = some .p ∧ granted (contended 3 8) = some (.d 0) ∧ granted (contended 4 8) = some .c ∧
    granted { contended 3 7 with pwq := idle.pwq } = some (.d 0) ∧
    granted { contended 3 7 with pwq := idle.pwq, drt := idle.drt } = some .c ∧ granted idle = none := by
  decide +kernel

/-- A grant to each of P, D and C, with the other candidates present and with them absent. -/
theorem test_meets_ShareCountersUpdate :
    granted (contended 3 7) = some .p ∧ granted (queued idle 1 4) = some .p ∧
    granted { contended 3 7 with pwq := idle.pwq } = some (.d 0) ∧
    granted { contended 3 7 with pwq := idle.pwq, attn := idle.attn } = some (.d 0) ∧
    granted (contended 4 0) = some .c ∧ granted { contended 3 7 with pwq := idle.pwq, drt := idle.drt } = some .c ∧
    granted idle = none ∧ idle.params.collectShare ≤ 32 ∧ idle.params.delayedShare ≤ 32 ∧
    (contended 32 32).sched.collectShare ≤ 32 := by
  decide +kernel

/-- What the presence of D and C is read from: a slot whose node is ABSENT is passed over, a member whose node is ABSENT
offers nothing, 19 notices leave C present, a SURVEY is offered on an empty set. -/
theorem test_meets_CandidatesPresent :
    slotOffered (contended 3 7) = some 0 ∧
    slotOffered (noded (contended 3 7) 4 fun r => { r with presence := .absent }) = none ∧
    CollectPresent (noticed (contended 3 7) 19 0) ∧ ¬CollectPresent (noticed (contended 3 7) 20 0) ∧
    SurveyReady { idle with segAttn := true } ∧ granted { idle with segAttn := true } = some .c ∧
    granted (noticed { idle with segAttn := true } 20 0) = none :=
  ⟨by decide +kernel, by decide +kernel,
   ⟨by decide, Or.inl ⟨9, ⟨_, List.mem_singleton_self _, rfl⟩, by decide +kernel, by decide +kernel⟩⟩,
   fun h => absurd h.1 (by decide), ⟨fun _ h => (by cases h), rfl, rfl⟩, by decide +kernel, by decide +kernel⟩

/-- The last register: 64 bytes that end at 65,535; the last bytes of a slot of each kind; a grant to P, D and C, with the
turnaround running and not, a FETCH and a SURVEY; and a slot passed over. -/
theorem test_meets_HeadPacketCut :
    ((idle.pwq.append (some 4) 0xFFC0 (List.replicate 64 0) 1).queue.map fun q =>
      decide (q.head.delivered < q.head.data.length ∧ q.head.addr.toNat + q.head.data.length ≤ 65536)) = some true ∧
    (0 < (List.replicate 32 (0 : Byte)).length ∧ (0xFFE0 : Half).toNat + 32 ≤ 65536) ∧
    (255 < 256 ∧ (0xFF00 : Half).toNat + 256 ≤ 65536) ∧
    (contended 3 7).schedule.engine.txn.map (fun x => (x.requester, x.cmd.kind, x.phase)) = some (.p, .wr, .sending) ∧
    (contended 3 8).schedule.engine.txn.map (fun x => (x.requester, x.cmd.kind)) = some (.d 0, .rd) ∧
    (contended 4 0).schedule.engine.txn.map (fun x => (x.requester, x.cmd.kind)) = some (.c, .fetch) ∧
    (State.schedule { contended 4 0 with engine := { txn := none, turnaround := some 20 } }).engine.txn.map
      (fun x => (x.requester, x.phase)) = some (.c, .turnaround) ∧
    (State.schedule { idle with segAttn := true }).engine.txn.map (·.cmd.kind) = some .survey ∧
    (let s := noded (contended 3 8) 4 fun r => { r with presence := .absent }
     0 ∈ (slotsLookedAt s).takeWhile (fun j => (s.slot j).any (nodeGone s)) ∧ s.slot 0 = some readSlot) := by
  decide +kernel

theorem test_meets_GapExpiryMakesReady :
    idle.held = none ∧
    (∃ q : HeadedQueue, ((queued idle 1 4).pwq.queue.map fun q => { q with headState := .gap 2000 }) = some q ∧
      q.headState = .gap 2000 ∧ State.headAbsent idle q.head = false ∧
      State.headAbsent (noded idle 4 fun r => { r with presence := .absent }) q.head = true) ∧
    (slotted idle 7 { readSlot with gap := some 2000 }).slot 7 = some { readSlot with gap := some 2000 } ∧
    absentRun (noded idle 4 fun r => { r with presence := .absent }) (queued idle 3 4).pwq.entries = 3 ∧
    absentRun idle (queued idle 3 4).pwq.entries = 0 :=
  ⟨rfl, ⟨_, rfl, by decide +kernel⟩, by decide +kernel⟩

/-- With 23 and with 24 notices. -/
theorem test_meets_DiscardExpiryFreesSlot :
    (let sl := readSlot.completed .ok .clear 5000
     (slotted idle 7 sl).held = none ∧ (slotted idle 7 sl).slot 7 = some sl ∧ sl.discard = some 5000) ∧
    (noticed idle 23 0).notices.queue.length < 24 ∧ 24 ≤ (noticed idle 24 0).notices.queue.length := by
  decide +kernel

theorem test_meets_CollectDeadlinesEnd :
    ((noded idle 29 fun r => { r with fetchEligible := some 2000 }).node 29).fetchEligible = some 2000 ∧
    ({ idle.attn with holdoff := some 5 }).holdoff = some 5 := by decide +kernel

theorem test_meets_ResendExpiryRewinds :
    (noticed idle 2 1).held = none ∧ (noticed idle 2 1).notices.resend = some 200 := by decide

/-- The premises of the six invariants: a state out of reset that has them all and a step that ends out of reset. -/
theorem test_meets_Invariants :
    NoticesOk State.reset.notices ∧ PwqOk State.reset.pwq ∧ TableOk State.reset ∧ SegmentOk State.reset ∧
    AttentionOk State.reset ∧ ParamsOk State.reset.params ∧ LinkOk State.reset.link ∧
    (∃ t : State, step { State.reset with pending := [.holdExpiry] } = .next t ∧ t.held = none) := by
  have hs : ∀ i : SlotId, State.reset.drt.slots[i] = none := by decide +kernel
  refine ⟨?_, ?_, ⟨⟨?_, ?_⟩, keysDistinct_of ?_, ?_, ?_, ?_⟩, ⟨?_, ?_, ?_, ?_, ?_⟩, ?_, ?_, ?_, ⟨_, rfl, ?_⟩⟩
  · unfold NoticesOk; decide
  · unfold PwqOk; decide
  · decide
  · decide +kernel
  · decide +kernel
  · intro i sl h; rw [hs i] at h; cases h
  · intro i sl k h; rw [hs i] at h; cases h
  · intro i h; cases h
  · decide
  · decide
  · decide
  · decide
  · intro x h; cases h
  · exact Or.inr rfl
  · unfold ParamsOk; decide
  · unfold LinkOk; decide
  · decide +kernel

end Sys2Proof.Tests
end

section
/-!
The Posted Write Queue's form is kept by every step. All operations but an append only take entries from the front, so one
relation between two queues, `Shrinks`, carries the argument.
-/

namespace Sys2Proof.PostedWrites

open Sys2Proof.Machine Sys2Proof.Safety Sys2Proof.Laws

/-- q is p with some entries gone from the front, the rest with their numbers and lengths, and a posted-loss counter still
in its range. -/
def Shrinks (p q : Pwq) : Prop :=
  q.nextNumber = p.nextNumber ∧ (∃ r, q.entries.map Entry.measure = (p.entries.map Entry.measure).drop r) ∧
    (p.lossCount ≤ 65535 → q.lossCount ≤ 65535)

theorem Shrinks.refl (p : Pwq) : Shrinks p p := ⟨rfl, ⟨0, rfl⟩, id⟩

theorem Shrinks.trans {p q r : Pwq} (h₁ : Shrinks p q) (h₂ : Shrinks q r) : Shrinks p r := by
  obtain ⟨n₁, ⟨a, e₁⟩, l₁⟩ := h₁
  obtain ⟨n₂, ⟨b, e₂⟩, l₂⟩ := h₂
  exact ⟨n₂.trans n₁, ⟨a + b, by rw [e₂, e₁, List.drop_drop]⟩, fun h => l₂ (l₁ h)⟩

/-- A queue with the same numbers, lengths and counter. -/
theorem Shrinks.of_entries {p q : Pwq} (hn : q.nextNumber = p.nextNumber)
    (he : q.entries.map Entry.measure = p.entries.map Entry.measure) (hl : q.lossCount = p.lossCount) : Shrinks p q :=
  ⟨hn, ⟨0, he⟩, fun h => hl ▸ h⟩

theorem Shrinks.of_eq {p q : Pwq} (h : q = p) : Shrinks p q := h ▸ Shrinks.refl p

/-- The form is kept when entries leave from the front (R2, R3, R18). -/
theorem Shrinks.pwqOk {p q : Pwq} (h : Shrinks p q) (hp : PwqOk p) : PwqOk q := by
  obtain ⟨hn, ⟨r, he⟩, hl⟩ := h
  rw [pwqOk_iff] at hp ⊢
  obtain ⟨h₁, h₂, h₃, h₄⟩ := hp
  refine ⟨?_, ?_, ?_, hl h₄⟩
  · rw [he, List.length_drop]; omega
  · rw [he, List.map_drop]
    exact (List.Sublist.sum_le_sum (List.drop_sublist r _) fun _ _ => Nat.zero_le _).trans h₂
  · rw [he, hn, List.map_drop, h₃, numbersBefore_drop, List.length_drop]

/-- The posted-loss counter saturates (R18). -/
theorem satAdd_lossMax_le (v n : Nat) : satAdd v n Config.lossMax ≤ 65535 := by
  unfold satAdd Config.lossMax; omega

/-! ### BARRIERs and slots -/

theorem completeBarrier_lossCount_le (s : State) (i : SlotId) :
    (s.completeBarrier i).pwq.lossCount ≤ s.pwq.lossCount := by
  unfold State.completeBarrier
  split
  · exact Nat.zero_le _
  · exact le_rfl

theorem completeBarrier_shrinks (s : State) (i : SlotId) : Shrinks s.pwq (s.completeBarrier i).pwq := by
  exact ⟨by simp, ⟨0, by simp⟩, (completeBarrier_lossCount_le s i).trans⟩

theorem completeBarriers_lossCount_le (s : State) : s.completeBarriers.pwq.lossCount ≤ s.pwq.lossCount := by
  unfold State.completeBarriers
  refine foldl_invariant (fun t : State => t.pwq.lossCount ≤ s.pwq.lossCount) _ (fun t i h => ?_) _ _ le_rfl
  split
  · exact (completeBarrier_lossCount_le t i).trans h
  · exact h

theorem resetSlot_shrinks (s : State) (i : SlotId) : Shrinks s.pwq (s.resetSlot i).pwq := by
  unfold State.resetSlot
  split
  · exact Shrinks.refl _
  · next sl _ =>
    cases sl.state with
    | waiting =>
      simp only
      split
      · exact completeBarrier_shrinks s i
      · exact Shrinks.refl _
    | active => exact Shrinks.refl _
    | complete => exact Shrinks.refl _
    | orphaned => exact Shrinks.refl _

theorem resetSlots_shrinks (s : State) : Shrinks s.pwq s.resetSlots.pwq :=
  foldl_invariant (fun t : State => Shrinks s.pwq t.pwq) _ (fun t i h => h.trans (resetSlot_shrinks t i)) _ _
    (Shrinks.refl _)

/-! ### The head -/

/-- A BARRIER that reads the posted-loss counter sets it to 0 (R37). -/
theorem popHead_lossCount_le (s : State) (q : HeadedQueue) : (s.popHead q).pwq.lossCount ≤ s.pwq.lossCount := by
  unfold State.popHead
  exact completeBarriers_lossCount_le _

theorem popHead_counted_lossCount_le (s : State) (c : Counters) (q : HeadedQueue) :
    (State.popHead { s with counters := c } q).pwq.lossCount ≤ s.pwq.lossCount := popHead_lossCount_le _ q

theorem discardHead_lossCount_le (s : State) (q : HeadedQueue) (r : LossReason) :
    (s.discardHead q r).pwq.lossCount ≤ 65535 := by
  unfold State.discardHead
  exact (popHead_lossCount_le _ _).trans (satAdd_lossMax_le _ _)

/-- Leaving, the head takes its entry with it, whatever has been noted on the head in the meantime. -/
theorem popHead_shrinks (s : State) (q : HeadedQueue) (h : s.pwq.entries.drop 1 = q.behind) :
    Shrinks s.pwq (s.popHead q).pwq := by
  exact ⟨by simp, ⟨1, by rw [popHead_entries, ← List.map_drop, h]⟩, (popHead_lossCount_le s q).trans⟩

theorem discardHead_shrinks (s : State) (q : HeadedQueue) (r : LossReason) (h : s.pwq.entries.drop 1 = q.behind) :
    Shrinks s.pwq (s.discardHead q r).pwq := by
  exact ⟨by simp, ⟨1, by rw [discardHead_entries, ← List.map_drop, h]⟩, fun _ => discardHead_lossCount_le s q r⟩

theorem entries_drop_one {p : Pwq} {q : HeadedQueue} (h : p.queue = some q) : p.entries.drop 1 = q.behind := by
  unfold Pwq.entries; rw [h]; rfl

theorem dropAbsentHeads_shrinks : ∀ (fuel : Nat) (s : State), Shrinks s.pwq (State.dropAbsentHeads fuel s).pwq
  | 0, s => Shrinks.refl _
  | fuel + 1, s => by
    unfold State.dropAbsentHeads
    split
    · exact Shrinks.refl _
    · next q hq =>
      split
      · exact (discardHead_shrinks s q _ (entries_drop_one hq)).trans (dropAbsentHeads_shrinks fuel _)
      · exact Shrinks.refl _

theorem checkHead_shrinks (s : State) : Shrinks s.pwq s.checkHead.pwq := dropAbsentHeads_shrinks _ s

/-- The head is noted anew: its number and data stay. -/
theorem rehead_shrinks {p : Pwq} {q q' : HeadedQueue} (h : p.queue = some q) (hm : q'.head.measure = q.head.measure)
    (hb : q'.behind = q.behind) : Shrinks p { p with queue := some q' } := by
  refine Shrinks.of_entries rfl ?_ rfl
  simp [Pwq.entries, h, hm, hb]

theorem headDelivered_shrinks (s : State) (q : HeadedQueue) (h : s.pwq.entries.drop 1 = q.behind) :
    Shrinks s.pwq (s.headDelivered q).pwq := by
  unfold State.headDelivered
  refine Shrinks.trans ?_ (checkHead_shrinks _)
  exact ⟨by simp, ⟨1, by rw [popHead_entries, ← List.map_drop, h]⟩, (popHead_counted_lossCount_le s _ q).trans⟩

theorem headAck_shrinks (s : State) (q : HeadedQueue) (len : Nat) (h : s.pwq.queue = some q) :
    Shrinks s.pwq (s.headAck q len).pwq := by
  unfold State.headAck
  simp only
  split
  · exact headDelivered_shrinks s _ (by rw [entries_drop_one h])
  · refine Shrinks.trans ?_ (checkHead_shrinks _)
    exact rehead_shrinks h rfl rfl

theorem headRetry_shrinks (s : State) (q : HeadedQueue) (mark : Bool) (h : s.pwq.queue = some q) :
    Shrinks s.pwq (s.headRetry q mark).pwq := by
  unfold State.headRetry
  simp only
  split
  · exact (discardHead_shrinks s _ _ (entries_drop_one h)).trans (checkHead_shrinks _)
  · exact rehead_shrinks h rfl rfl

theorem headOutcome_shrinks (s : State) (c : Command) (o : SegOutcome) : Shrinks s.pwq (s.headOutcome c o).pwq := by
  have discarded : ∀ (q : HeadedQueue) (r : LossReason), s.pwq.queue = some q →
      Shrinks s.pwq (s.discardHead q r).checkHead.pwq :=
    fun q r h => (discardHead_shrinks s q r (entries_drop_one h)).trans (checkHead_shrinks _)
  unfold State.headOutcome
  split
  · exact Shrinks.refl _
  · next q hq =>
    cases o with
    | ack => exact headAck_shrinks s q _ hq
    | refuse r => exact discarded q _ hq
    | noResponse =>
      simp only
      split
      · exact discarded q _ hq
      · exact headRetry_shrinks s q _ hq
    | wait => exact headRetry_shrinks s q _ hq
    | data b => exact headRetry_shrinks s q _ hq
    | report m c d => exact headRetry_shrinks s q _ hq
    | empty => exact headRetry_shrinks s q _ hq
    | ident b => exact headRetry_shrinks s q _ hq
    | garbled => exact headRetry_shrinks s q _ hq

/-! ### Decisions, outcomes and resets -/

theorem schedule_shrinks (s : State) : Shrinks s.pwq s.schedule.pwq :=
  Shrinks.of_entries (by simp) (by rw [schedule_entries]) (by simp)

theorem granteeOutcome_shrinks (s : State) (x : Transaction) (o : SegOutcome) :
    Shrinks s.pwq (s.granteeOutcome x o).pwq := by
  unfold State.granteeOutcome
  split
  · exact headOutcome_shrinks s _ o
  · exact Shrinks.of_eq (by simp)
  · split <;> exact Shrinks.of_eq (by simp)

theorem deliver_shrinks (s : State) (x : Transaction) (o : SegOutcome) : Shrinks s.pwq (s.deliver x o).pwq := by
  have node : Shrinks s.pwq (s.nodeOutcome x.cmd o).pwq := Shrinks.of_eq (by simp)
  exact ((node.trans (checkHead_shrinks _)).trans (granteeOutcome_shrinks _ x o)).trans (schedule_shrinks (State.release _))

theorem windowEnds_shrinks (s : State) (x : Transaction) : Shrinks s.pwq (s.windowEnds x).pwq := by
  unfold State.windowEnds
  refine Shrinks.trans ?_ (schedule_shrinks (State.release _))
  simp only [State.release_pwq]
  split
  · next q hq => exact headAck_shrinks s q _ hq
  · exact Shrinks.refl _

theorem headGapEnds_shrinks (s : State) : Shrinks s.pwq s.headGapEnds.pwq := by
  unfold State.headGapEnds
  split
  · exact Shrinks.refl _
  · next q hq =>
    split
    · refine Shrinks.trans (Shrinks.trans ?_ (checkHead_shrinks _)) (schedule_shrinks _)
      exact rehead_shrinks hq rfl rfl
    · exact Shrinks.refl _
    · exact Shrinks.refl _

theorem discardAll_shrinks (s : State) : Shrinks s.pwq s.discardAll.pwq := by
  unfold State.discardAll
  split
  · exact Shrinks.refl _
  · refine ⟨rfl, ⟨s.pwq.entries.length, ?_⟩, fun _ => satAdd_lossMax_le _ _⟩
    rw [List.drop_eq_nil_of_le (by simp)]; rfl

theorem clearStamps_pwq (s : State) : s.clearStamps.pwq = s.pwq := rfl

theorem resetLearned_pwq (s : State) : s.resetLearned.pwq = s.pwq := rfl

theorem segEnterResetting_abandon_pwq (s : State) (cause : RestartCause) :
    (s.segEnterResetting cause).abandon.pwq = s.pwq := rfl

theorem enterResetting_shrinks (s : State) (cause : RestartCause) : Shrinks s.pwq (s.enterResetting cause).pwq := by
  have discarded := discardAll_shrinks (s.segEnterResetting cause).abandon
  have reset := resetSlots_shrinks (s.segEnterResetting cause).abandon.discardAll.clearStamps
  rw [clearStamps_pwq] at reset
  rw [segEnterResetting_abandon_pwq] at discarded
  unfold State.enterResetting
  rw [resetLearned_pwq]
  exact discarded.trans reset

theorem segmentReset_shrinks (s : State) : Shrinks s.pwq s.segmentReset.pwq := by
  unfold State.segmentReset
  split
  · exact enterResetting_shrinks s _
  · exact enterResetting_shrinks s _
  · exact Shrinks.refl _

/-! ### Requests -/

theorem fillAnswer_shrinks (s : State) (i : SlotId) (req : DelayedReq) (notify : Bool) :
    Shrinks s.pwq (s.fillAnswer i req notify).1.pwq := by
  unfold State.fillAnswer
  simp only
  split
  · split
    · simp only [State.repeatAnswer_pwq]
      exact completeBarrier_shrinks (s.fillSlot i req notify) i
    · exact Shrinks.refl _
  · exact schedule_shrinks (s.fillSlot i req notify)

theorem takeDelayed_shrinks (s : State) (req : DelayedReq) (notify : Bool) :
    Shrinks s.pwq (s.takeDelayed req notify).1.pwq := by
  unfold State.takeDelayed
  split
  · exact Shrinks.of_eq (by simp)
  · split
    · exact Shrinks.refl _
    · split
      · exact Shrinks.refl _
      · exact fillAnswer_shrinks s _ req notify

/-- An accepted write is appended in room found for it (R2, R4, R7). -/
theorem acceptWrite_pwqOk (s : State) (target : Option NodeId) (addr : Half) (data : List Byte) (seq : Byte)
    (hr : s.pwq.hasRoom data.length = true) (h : PwqOk s.pwq) : PwqOk (s.acceptWrite target addr data seq).1.pwq := by
  have appended := pwqOk_append target addr data seq hr h
  unfold State.acceptWrite
  simp only
  split
  · exact (schedule_shrinks { s with pwq := _ }).pwqOk appended
  · exact appended

theorem postWrite_pwqOk (s : State) (seq : Byte) (a : NodeId × Half × List Byte) (h : PwqOk s.pwq) :
    PwqOk (s.postWrite seq a).1.pwq := by
  unfold State.postWrite State.handOver
  split
  · split
    · exact h
    · exact (takeDelayed_shrinks s _ _).pwqOk h
  · split
    · exact h
    · split
      · next hr => exact acceptWrite_pwqOk s _ _ _ seq hr h
      · exact h

theorem broadcastWrite_pwqOk (s : State) (seq : Byte) (a : Half × List Byte) (h : PwqOk s.pwq) :
    PwqOk (s.broadcastWrite seq a).1.pwq := by
  unfold State.broadcastWrite
  split
  · next hr => exact acceptWrite_pwqOk s _ _ _ seq hr h
  · exact h

/-! ### The step -/

/-- The middle operations keep the queue's form. -/
theorem pwqOk_kept : Kept fun s => PwqOk s.pwq where
  pendingFree _ _ h := h
  segAttnFree _ _ h := h
  arbitrate s h := by simpa using h
  replayAnswer _ _ h := h
  giveAnswer _ _ _ _ _ h := h
  takeChar s b h := by simpa using h
  frameGap s h := by simpa using h
  linkReset _ h := h
  partReset _ _ _ _ := ⟨Nat.zero_le _, Nat.zero_le _, rfl, Nat.zero_le _⟩
  frameSent _ _ _ _ _ h := h
  postWrite s seq a h := postWrite_pwqOk s seq a h
  broadcastWrite s seq a h := broadcastWrite_pwqOk s seq a h
  takeDelayed s req notify h := (takeDelayed_shrinks s req notify).pwqOk h
  cancel s i h := by simpa using h
  acknowledge s n h := (Shrinks.of_entries (by simp) (by simp) (by simp)).pwqOk h
  setNode _ _ _ h := h
  storeParam _ _ _ _ h := h
  segmentReset s h := (segmentReset_shrinks s).pwqOk h
  requestReset _ h := h
  schedule s h := (schedule_shrinks s).pwqOk h
  holdExpires s _ h := (Shrinks.of_entries (by simp) (by simp) (by simp)).pwqOk h
  enterRunning s _ h := (Shrinks.of_entries (by simp) (by simp) (by simp)).pwqOk h
  engine _ _ _ h := h
  counters _ _ h := h
  deliver s x o _ h := (deliver_shrinks s x o).pwqOk h
  windowEnds s x _ h := (windowEnds_shrinks s x).pwqOk h
  trainEnds s starts _ h := (Shrinks.of_entries (by simp) (by simp) (by simp)).pwqOk h
  headGapEnds s h := (headGapEnds_shrinks s).pwqOk h
  slotGapEnds s i h := (Shrinks.of_entries (by simp) (by simp) (by simp)).pwqOk h
  discardSlot _ _ _ _ _ h := h
  holdoffNone _ h := h
  rewind _ h := h

/-- Settles O56: entries only leave from the front, or one is appended where there is room. -/
theorem postedQueueFormKept : Obligations.PostedQueueFormKept :=
  fun s t hs ht => pwqOk_kept.step s t hs ht

end Sys2Proof.PostedWrites
end

section
/-!
POST_WRITE and BROADCAST_WRITE as the dispatcher executes them, and the values after a part reset.
-/

namespace Sys2Proof.PostedWrites

open Sys2Proof.Machine Sys2Proof.Safety Sys2Proof.Laws

/-! ### The payloads read back (R189) -/

theorem postWriteOperands_payload (n : NodeId) (a : Half) (d : List Byte) (h₁ : 1 ≤ d.length) (h₂ : d.length ≤ 64)
    (h₃ : a.toNat + d.length ≤ 65536) : postWriteOperands (nodeByte n :: halfBytes a ++ d) = some (n, a, d) := by
  have hok : accessOk a d.length 64 = true := (accessOk_iff _ _ _).mpr ⟨h₁, h₂, h₃⟩
  simp [halfBytes_eq, postWriteOperands, nodeField_nodeByte, half_split, hok]

theorem broadcastOperands_payload (a : Half) (d : List Byte) (h₁ : 1 ≤ d.length) (h₂ : d.length ≤ 32)
    (h₃ : a.toNat + d.length ≤ 65536) : broadcastOperands (halfBytes a ++ d) = some (a, d) := by
  have hok : accessOk a d.length 32 = true := (accessOk_iff _ _ _).mpr ⟨h₁, h₂, h₃⟩
  simp [halfBytes_eq, broadcastOperands, half_split, hok]

theorem confirmWriteOperands_payload (n : NodeId) (f : Bool) (a : Half) (d : List Byte) (h₁ : 1 ≤ d.length)
    (h₂ : d.length ≤ 32) (h₃ : a.toNat + d.length ≤ 65536) :
    confirmWriteOperands ([nodeByte n, flagByte f] ++ halfBytes a ++ d) = some (.confirmWrite n a d, f) := by
  have hok : accessOk a d.length 32 = true := (accessOk_iff _ _ _).mpr ⟨h₁, h₂, h₃⟩
  simp [halfBytes_eq, confirmWriteOperands, nodeField_nodeByte, flagField_flagByte, half_split, hok]

/-! ### The owner's checks (R4 to R6) -/

theorem hasRoom_iff (q : Pwq) (n : Nat) : q.hasRoom n = true ↔ q.entries.length < 16 ∧ q.bytes + n ≤ 1024 := by
  unfold Pwq.hasRoom
  rw [Bool.and_eq_true, decide_eq_true_iff, decide_eq_true_iff]; rfl

theorem hasRoom_eq_false {q : Pwq} {n : Nat} (h : 16 ≤ q.entries.length ∨ 1024 < q.bytes + n) : q.hasRoom n = false := by
  rw [Bool.eq_false_iff, ne_eq, hasRoom_iff]; omega

theorem absent_iff (s : State) (n : NodeId) : s.absent n = true ↔ (s.node n).presence = .absent := by
  simp [State.absent]

/-- POST_WRITE to a postable node that is not ABSENT, with room (R4). -/
theorem postWrite_accepted {s : State} {n : NodeId} {d : List Byte} (seq : Byte) (a : Half)
    (hp : (s.node n).postable = true) (ha : (s.node n).presence ≠ .absent) (hr : s.pwq.hasRoom d.length = true) :
    s.postWrite seq (n, a, d) = s.acceptWrite (some n) a d seq := by
  have hna : ¬s.absent n = true := fun h => ha ((absent_iff s n).mp h)
  simp [State.postWrite, hp, hna, hr]

theorem postWrite_nodeAbsent {s : State} {n : NodeId} (seq : Byte) (a : Half) (d : List Byte)
    (hp : (s.node n).postable = true) (ha : (s.node n).presence = .absent) :
    s.postWrite seq (n, a, d) = (s, .refused .nodeAbsent) := by
  simp [State.postWrite, hp, (absent_iff s n).mpr ha]

theorem postWrite_queueFull {s : State} {n : NodeId} {d : List Byte} (seq : Byte) (a : Half)
    (hp : (s.node n).postable = true) (ha : (s.node n).presence ≠ .absent) (hr : s.pwq.hasRoom d.length = false) :
    s.postWrite seq (n, a, d) = (s, .refused .queueFull) := by
  have hna : ¬s.absent n = true := fun h => ha ((absent_iff s n).mp h)
  simp [State.postWrite, hp, hna, hr]

/-- POST_WRITE to a node that is not postable is handed over, or too long for it (R5). -/
theorem postWrite_handOver {s : State} {n : NodeId} (seq : Byte) (a : Half) (d : List Byte)
    (hp : (s.node n).postable = false) :
    s.postWrite seq (n, a, d) =
      if 32 < d.length then (s, .refused .tooLong) else s.takeDelayed (.confirmWrite n a d) false := by
  unfold State.postWrite State.handOver
  rw [if_pos hp]; rfl

/-- An accepted write in an empty queue is a new candidate (R7, R77). -/
theorem acceptWrite_eq (s : State) (target : Option NodeId) (addr : Half) (data : List Byte) (seq : Byte) :
    s.acceptWrite target addr data seq =
      (if s.pwq.queue = none then { s with pwq := s.pwq.append target addr data seq }.schedule
        else { s with pwq := s.pwq.append target addr data seq }, .accepted s.pwq.nextNumber) := by
  unfold State.acceptWrite
  simp

/-! ### The rows -/

theorem exec_postWrite {s : State} {seq : Byte} {n : NodeId} {a : Half} {d : List Byte} (h₁ : 1 ≤ d.length)
    (h₂ : d.length ≤ 64) (h₃ : a.toNat + d.length ≤ 65536) (hx : Executes s seq 0x01 (nodeByte n :: halfBytes a ++ d)) :
    exec (.postWrite seq (nodeByte n :: halfBytes a ++ d)) s =
      .next (answered (s.postWrite seq (n, a, d)).1 seq 0x01 (s.postWrite seq (n, a, d)).2) :=
  congrArg Host.Outcome.next
    (request_parsed hx (fun x t => t.postWrite seq x) (postWriteOperands_payload n a d h₁ h₂ h₃))

theorem exec_broadcastWrite {s : State} {seq : Byte} {a : Half} {d : List Byte} (h₁ : 1 ≤ d.length)
    (h₂ : d.length ≤ 32) (h₃ : a.toNat + d.length ≤ 65536) (hx : Executes s seq 0x02 (halfBytes a ++ d)) :
    exec (.broadcastWrite seq (halfBytes a ++ d)) s =
      .next (answered (s.broadcastWrite seq (a, d)).1 seq 0x02 (s.broadcastWrite seq (a, d)).2) :=
  congrArg Host.Outcome.next
    (request_parsed hx (fun x t => t.broadcastWrite seq x) (broadcastOperands_payload a d h₁ h₂ h₃))

theorem exec_confirmWrite {s : State} {seq : Byte} {n : NodeId} {f : Bool} {a : Half} {d : List Byte}
    (h₁ : 1 ≤ d.length) (h₂ : d.length ≤ 32) (h₃ : a.toNat + d.length ≤ 65536)
    (hx : Executes s seq 0x10 ([nodeByte n, flagByte f] ++ halfBytes a ++ d)) :
    exec (.confirmWrite seq ([nodeByte n, flagByte f] ++ halfBytes a ++ d)) s =
      .next (answered (s.takeDelayed (.confirmWrite n a d) f).1 seq 0x10 (s.takeDelayed (.confirmWrite n a d) f).2) := by
  have taken := request_parsed hx State.delayedOwner (confirmWriteOperands_payload n f a d h₁ h₂ h₃)
  exact congrArg Host.Outcome.next taken

/-! ### The statements -/

/-- Settles O5, by the empty and the non-empty queue. -/
theorem postWriteAccepted : Obligations.PostWriteAccepted := by
  intro s seq n a d h₁ h₂ h₃ hx hp ha hlen hbytes e u
  have hroom : s.pwq.hasRoom d.length = true := (hasRoom_iff _ _).mpr ⟨hlen, hbytes⟩
  have hexec := exec_postWrite h₁ h₂ h₃ hx
  rw [postWrite_accepted seq a hp ha hroom, acceptWrite_eq] at hexec
  refine ⟨Pwq.append_entries .., rfl, rfl, fun hq => ⟨?_, ?_⟩, fun q hq => ⟨?_, ?_⟩⟩
  · simp [u, e, Pwq.append, hq, headedBy]
  · rw [hexec, if_pos hq]
  · simp [u, e, Pwq.append, hq]
  · rw [hexec, if_neg (by simp [hq])]

/-- Settles O6, check by check. -/
theorem postWriteRefused : Obligations.PostWriteRefused := by
  intro s seq n a d h₁ h₂ h₃ hx
  have hexec := exec_postWrite h₁ h₂ h₃ hx
  refine ⟨fun hp hlong => ?_, fun hp ha => ?_, fun hp ha hfull => ?_⟩
  · rw [hexec, postWrite_handOver seq a d hp, if_pos hlong]
  · rw [hexec, postWrite_nodeAbsent seq a d hp ha]
  · rw [hexec, postWrite_queueFull seq a hp ha (hasRoom_eq_false hfull)]

/-- Settles O7: both rows come to the same taking of a delayed request. -/
theorem postWriteHandedOver : Obligations.PostWriteHandedOver := by
  intro n a d h₁ h₂ h₃
  refine ⟨fun s seq hx hp => ?_, fun s seq hx => exec_confirmWrite (f := false) h₁ h₂ h₃ hx⟩
  rw [exec_postWrite h₁ (by omega) h₃ hx, postWrite_handOver seq a d hp, if_neg (by omega)]

/-- Settles O8, by whether there is room. -/
theorem broadcastWriteTaken : Obligations.BroadcastWriteTaken := by
  intro s seq a d h₁ h₂ h₃ hx e u
  have hexec := exec_broadcastWrite h₁ h₂ h₃ hx
  refine ⟨Pwq.append_entries .., rfl, fun hlen hbytes => ?_, fun hfull => ?_⟩
  · have hroom : s.pwq.hasRoom d.length = true := (hasRoom_iff _ _).mpr ⟨hlen, hbytes⟩
    have haccept : s.broadcastWrite seq (a, d) = s.acceptWrite none a d seq := by simp [State.broadcastWrite, hroom]
    rw [hexec, haccept, acceptWrite_eq]
  · have hrefuse : s.broadcastWrite seq (a, d) = (s, .refused .queueFull) := by
      simp [State.broadcastWrite, hasRoom_eq_false hfull]
    rw [hexec, hrefuse]

/-- Settles O34: every field is the one `State.afterPartReset` writes, and the eleven counters are 0. -/
theorem partResetValues : Obligations.PartResetValues := by
  intro cause lspd level l t
  have hslot : ∀ i : SlotId, t.slot i = none := fun i => by simp [t, State.slot, State.afterPartReset]
  have hnode : ∀ n : NodeId, t.node n = NodeRecord.fresh := fun n => by simp [t, State.node, State.afterPartReset]
  have hcause : t.seg.cause = if cause = .powerOn then .powerOn else .partReset := by cases cause <;> rfl
  have hcounters : t.counters.bytes = List.replicate 44 0 := by
    show Counters.zero.bytes = _
    decide
  exact ⟨rfl, rfl, rfl, rfl, hslot, rfl, rfl, rfl, rfl, rfl, rfl, rfl, hcause, rfl, hnode, rfl, rfl, rfl, rfl, rfl, rfl,
    rfl, rfl, rfl, rfl, rfl, rfl, rfl, hcounters, rfl, rfl⟩

end Sys2Proof.PostedWrites
end

section
/-!
Entries leaving the Posted Write Queue one after another: what the slots have of it, and how many leave. An entry leaves by
`State.popHead`, delivered, or by `State.discardHead`, lost; behind it the heads of ABSENT nodes follow (R16).
-/

namespace Sys2Proof.PostedWrites

open Sys2Proof.Machine Sys2Proof.Safety Sys2Proof.Laws

/-! ### BARRIERs that wait -/

/-- A BARRIER that waits for a posted write (R37). -/
def WaitingBarrier (sl : Slot) : Prop := sl.req = .barrier ∧ sl.state = .waiting

/-- There is one WAITING BARRIER at most, and it waits for an entry (R23, R37). -/
def OneBarrier (s : State) : Prop :=
  (∀ (i : SlotId) (sl : Slot), s.slot i = some sl → WaitingBarrier sl → sl.postingStamp ≠ none) ∧
    ∀ (i j : SlotId) (a b : Slot), s.slot i = some a → s.slot j = some b → WaitingBarrier a → WaitingBarrier b → i = j

theorem oneBarrier_of_tableOk {s : State} (h : TableOk s) : OneBarrier s := by
  obtain ⟨-, distinct, wait, -, -⟩ := h
  refine ⟨fun i sl hs hb => ?_, fun i j a b ha hb wa wb => ?_⟩
  · rcases wait i sl hs hb.1 with hc | hw
    · rw [hb.2] at hc; cases hc
    · exact hw.2
  · exact distinct i j a b ha hb (by rw [wa.2]; rfl) (by rw [wb.2]; rfl) (wa.1.trans wb.1.symm)

theorem clearBarrier_iff (s : State) (i : SlotId) :
    s.clearBarrier i = true ↔ ∃ sl, s.slot i = some sl ∧ WaitingBarrier sl ∧ sl.postingStamp = none := by
  unfold State.clearBarrier WaitingBarrier
  cases s.slot i with
  | none => simp
  | some sl => simp [and_comm]

/-- The record of a BARRIER as it completes (R37). -/
theorem completeBarrier_slot_self {s : State} {i : SlotId} {sl : Slot} (h : s.slot i = some sl) :
    (s.completeBarrier i).slot i =
      some (Slot.completed { sl with lossCount := s.pwq.lossCount } .ok s.notices.newest s.params.discardTime) := by
  unfold State.completeBarrier
  rw [h]
  exact completeWith_slot_self s i { sl with lossCount := s.pwq.lossCount } .ok

theorem completeBarrier_lossCount {s : State} {i : SlotId} {sl : Slot} (h : s.slot i = some sl) :
    (s.completeBarrier i).pwq.lossCount = 0 := by
  unfold State.completeBarrier; rw [h]

theorem completeBarrier_not_mem_order {s : State} {i : SlotId} {sl : Slot} (h : s.slot i = some sl) :
    i ∉ (s.completeBarrier i).drt.order := by
  unfold State.completeBarrier; rw [h]; simp

/-- A slot number splits the list of the eight. -/
theorem allSlots_split (i : SlotId) :
    ∃ before after, allSlots = before ++ i :: after ∧ i ∉ before ∧ i ∉ after := by
  refine ⟨allSlots.take i.val, allSlots.drop (i.val + 1), ?_⟩
  revert i; decide

/-- The completion of posting-clear BARRIERs, on a list of slots. -/
theorem completeFold_of_none (s : State) (l : List SlotId) (h : ∀ j ∈ l, s.clearBarrier j = false) :
    l.foldl (fun t i => if t.clearBarrier i then t.completeBarrier i else t) s = s := by
  induction l with
  | nil => rfl
  | cons a rest ih =>
    rw [List.foldl_cons, if_neg (by rw [h a (by simp)]; decide)]
    exact ih fun j hj => h j (by simp [hj])

theorem completeBarriers_of_none {s : State} (h : ∀ j, s.clearBarrier j = false) : s.completeBarriers = s :=
  completeFold_of_none s allSlots fun j _ => h j

/-- With one posting-clear BARRIER, that one completes. -/
theorem completeBarriers_of_one {s : State} {i : SlotId} (hi : s.clearBarrier i = true)
    (huniq : ∀ j, s.clearBarrier j = true → j = i) : s.completeBarriers = s.completeBarrier i := by
  obtain ⟨sl, hs, -, -⟩ := (clearBarrier_iff s i).mp hi
  obtain ⟨before, after, hsplit, hb, -⟩ := allSlots_split i
  have others : ∀ j, j ≠ i → s.clearBarrier j = false := fun j hj =>
    Bool.eq_false_iff.mpr fun hc => hj (huniq j hc)
  have done : ∀ j, (s.completeBarrier i).clearBarrier j = false := by
    intro j
    by_cases hj : j = i
    · subst hj
      simp [State.clearBarrier, completeBarrier_slot_self hs, Slot.completed]
    · have := others j hj
      unfold State.clearBarrier at this ⊢
      rwa [completeBarrier_slot_ne s i j hj]
  unfold State.completeBarriers
  rw [hsplit, List.foldl_append,
    completeFold_of_none s before fun j hj => others j fun h => hb (h ▸ hj), List.foldl_cons, if_pos hi]
  exact completeFold_of_none _ after fun j _ => done j

/-! ### The slots while entries leave -/

/-- The record with its stamp none when it names one of these entries (R31). -/
def unstamped (gone : List Entry) (sl : Slot) : Slot :=
  if gone.any (fun e => sl.postingStamp == some e.number) then { sl with postingStamp := none } else sl

theorem unstamped_nil (sl : Slot) : unstamped [] sl = sl := rfl

theorem unstamped_singleton (e : Entry) (sl : Slot) : unstamped [e] sl = sl.clearStamp e.number := by
  simp [unstamped, Slot.clearStamp]

theorem unstamped_cons (e : Entry) (gone : List Entry) (sl : Slot) :
    unstamped (e :: gone) sl = unstamped gone (unstamped [e] sl) := by
  unfold unstamped
  by_cases h : sl.postingStamp = some e.number <;> simp [h]

theorem unstamped_of_not_named {gone : List Entry} {sl : Slot} (h : ∀ e ∈ gone, sl.postingStamp ≠ some e.number) :
    unstamped gone sl = sl := by
  unfold unstamped
  rw [if_neg]
  simpa using h

theorem unstamped_req (gone : List Entry) (sl : Slot) : (unstamped gone sl).req = sl.req := by
  unfold unstamped; split <;> rfl

theorem unstamped_state (gone : List Entry) (sl : Slot) : (unstamped gone sl).state = sl.state := by
  unfold unstamped; split <;> rfl

theorem unstamped_postingStamp (gone : List Entry) (sl : Slot) :
    (unstamped gone sl).postingStamp =
      if gone.any (fun e => sl.postingStamp == some e.number) then none else sl.postingStamp := by
  unfold unstamped; split <;> rfl

theorem waitingBarrier_unstamped (gone : List Entry) (sl : Slot) :
    WaitingBarrier (unstamped gone sl) ↔ WaitingBarrier sl := by
  simp [WaitingBarrier, unstamped_req, unstamped_state]

/-- From s to t these entries leave the queue in turn, the first counted as lost when first is 1, all others lost. What each
slot has of it: the WAITING BARRIER that waited for one of them completes, every other slot keeps its record but the
stamp. -/
structure EntriesLeft (s t : State) (gone : List Entry) (first : Nat) : Prop where
  free : ∀ j : SlotId, s.slot j = none → t.slot j = none
  kept : ∀ (j : SlotId) (sl : Slot), s.slot j = some sl →
    (WaitingBarrier sl → ∀ e ∈ gone, sl.postingStamp ≠ some e.number) → t.slot j = some (unstamped gone sl)
  barrier : ∀ (j : SlotId) (sl : Slot) (m : Nat) (e : Entry), s.slot j = some sl → WaitingBarrier sl → gone[m]? = some e →
    sl.postingStamp = some e.number → t.pwq.lossCount = gone.length - (m + 1) ∧
      ∃ r : Slot, t.slot j = some r ∧ r.req = sl.req ∧ r.postingStamp = none ∧ r.state = .complete ∧ r.result = some .ok ∧
        j ∉ t.drt.order ∧ r.lossCount = min (s.pwq.lossCount + first + m) 65535 ∧
        (m + 1 = gone.length → r.dataStamp = t.notices.newest)
  count : (∀ (j : SlotId) (sl : Slot), s.slot j = some sl → WaitingBarrier sl →
      ∀ e ∈ gone, sl.postingStamp ≠ some e.number) →
    t.pwq.lossCount = min (s.pwq.lossCount + (first + gone.length - 1)) 65535
  order : ∀ j : SlotId, j ∉ s.drt.order → j ∉ t.drt.order
  quiet : gone = [] → t.notices.newest = s.notices.newest

/-- Nothing leaves. -/
theorem EntriesLeft.nil {s : State} (h : s.pwq.lossCount ≤ 65535) : EntriesLeft s s [] 1 where
  free _ h := h
  kept _ _ hs _ := hs
  barrier _ _ m e _ _ he _ := by simp at he
  count _ := by simp; omega
  order _ h := h
  quiet _ := rfl

theorem slot_mapSlots (s : State) (f : Slot → Slot) (p : Pwq) (j : SlotId) :
    State.slot { s with pwq := p, drt := s.drt.mapSlots f } j = (s.slot j).map f := by
  simp [State.slot, Drt.mapSlots]

/-- u without its head, before the BARRIERs that waited for it complete (R11, R31). -/
def headRemoved (u : State) (q : HeadedQueue) : State :=
  { u with pwq := { u.pwq with queue := headedBy q.behind }
           drt := u.drt.mapSlots (Slot.clearStamp q.head.number) }

theorem popHead_eq_headRemoved (u : State) (q : HeadedQueue) : u.popHead q = (headRemoved u q).completeBarriers := rfl

section PopHead

variable {s u : State} (q : HeadedQueue) (hd : u.drt = s.drt)

include hd

theorem headRemoved_slot (j : SlotId) : (headRemoved u q).slot j = (s.slot j).map (unstamped [q.head]) := by
  rw [← slot_congr hd j, funext (unstamped_singleton q.head)]
  exact slot_mapSlots u _ _ j

theorem headRemoved_order : (headRemoved u q).drt.order = s.drt.order := by rw [← hd]; rfl

/-- The BARRIERs that may complete now are those that waited for the head. -/
theorem headRemoved_clearBarrier_iff (one : OneBarrier s) (j : SlotId) : (headRemoved u q).clearBarrier j = true ↔
    ∃ sl, s.slot j = some sl ∧ WaitingBarrier sl ∧ sl.postingStamp = some q.head.number := by
  rw [clearBarrier_iff, headRemoved_slot q hd]
  constructor
  · rintro ⟨r, hr, hw, hn⟩
    obtain ⟨sl, hs, rfl⟩ := Option.map_eq_some_iff.mp hr
    rw [waitingBarrier_unstamped] at hw
    refine ⟨sl, hs, hw, ?_⟩
    by_contra hne
    rw [unstamped_of_not_named (by simpa using hne)] at hn
    exact one.1 j sl hs hw hn
  · rintro ⟨sl, hs, hw, hn⟩
    exact ⟨unstamped [q.head] sl, by rw [hs]; rfl, (waitingBarrier_unstamped _ _).mpr hw,
      by rw [unstamped_postingStamp]; simp [hn]⟩

/-- No BARRIER waited for the head. -/
theorem headRemoved_entriesLeft {first : Nat} (hl : u.pwq.lossCount = min (s.pwq.lossCount + first) 65535)
    (one : OneBarrier s) (hnone : ∀ j, (headRemoved u q).clearBarrier j = false) :
    EntriesLeft s (headRemoved u q) [q.head] first where
  free j hj := by rw [headRemoved_slot q hd, hj]; rfl
  kept j sl hs _ := by rw [headRemoved_slot q hd, hs]; rfl
  barrier j sl m e hs hw he hn := by
    obtain rfl := List.mem_singleton.mp (List.mem_of_getElem? he)
    have hclear := (headRemoved_clearBarrier_iff q hd one j).mpr ⟨sl, hs, hw, hn⟩
    rw [hnone j] at hclear; cases hclear
  count _ := by
    show u.pwq.lossCount = _
    rw [hl]; simp
  order j hj := by rwa [headRemoved_order q hd]
  quiet h := by simp at h

/-- The BARRIER in slot i waited for the head. -/
theorem completeBarrier_entriesLeft {first : Nat} (hl : u.pwq.lossCount = min (s.pwq.lossCount + first) 65535)
    (one : OneBarrier s) {i : SlotId} {b : Slot} (hb : s.slot i = some b) (hbw : WaitingBarrier b)
    (hbn : b.postingStamp = some q.head.number) :
    EntriesLeft s ((headRemoved u q).completeBarrier i) [q.head] first := by
  have hvi : (headRemoved u q).slot i = some (unstamped [q.head] b) := by rw [headRemoved_slot q hd, hb]; rfl
  refine ⟨fun j hj => ?_, fun j sl hs hn => ?_, fun j sl m e hs hw he hn => ?_, fun hnone => ?_, fun j hj => ?_,
    fun h => by simp at h⟩
  · have hne : j ≠ i := fun h => by rw [h, hb] at hj; cases hj
    rw [completeBarrier_slot_ne _ i j hne, headRemoved_slot q hd, hj]; rfl
  · have hne : j ≠ i := fun h => by
      subst h; rw [hb] at hs; cases hs
      exact hn hbw q.head (by simp) hbn
    rw [completeBarrier_slot_ne _ i j hne, headRemoved_slot q hd, hs]; rfl
  · obtain rfl : j = i := one.2 j i sl b hs hb hw hbw
    obtain rfl : m = 0 := by simpa using (List.getElem?_eq_some_iff.mp he).1
    rw [hb] at hs; cases hs
    refine ⟨by rw [completeBarrier_lossCount hvi]; rfl, _, completeBarrier_slot_self hvi, unstamped_req _ _, ?_, rfl, rfl,
      completeBarrier_not_mem_order hvi, hl, fun _ => ?_⟩
    · show (unstamped [q.head] b).postingStamp = none
      rw [unstamped_postingStamp]; simp [hbn]
    · show (headRemoved u q).notices.newest = ((headRemoved u q).completeBarrier j).notices.newest
      unfold NoticeBlock.newest
      rw [State.completeBarrier_notices_queue]
  · exact absurd hbn (hnone i b hb hbw q.head (by simp))
  · intro hm
    unfold State.completeBarrier at hm
    rw [hvi] at hm
    exact hj (headRemoved_order q hd ▸ List.mem_of_mem_filter hm)

end PopHead

/-- The head leaves u, which has the table of s and the posted-loss counter that counts the head or does not (R11, R17, R31,
R37). -/
theorem popHead_entriesLeft {s u : State} (q : HeadedQueue) (first : Nat) (hd : u.drt = s.drt)
    (hl : u.pwq.lossCount = min (s.pwq.lossCount + first) 65535) (one : OneBarrier s) :
    EntriesLeft s (u.popHead q) [q.head] first := by
  rw [popHead_eq_headRemoved]
  by_cases hex : ∃ i, (headRemoved u q).clearBarrier i = true
  · obtain ⟨i, hi⟩ := hex
    obtain ⟨b, hb, hbw, hbn⟩ := (headRemoved_clearBarrier_iff q hd one i).mp hi
    have only : ∀ j, (headRemoved u q).clearBarrier j = true → j = i := fun j hj => by
      obtain ⟨c, hc, hcw, -⟩ := (headRemoved_clearBarrier_iff q hd one j).mp hj
      exact one.2 j i c b hc hb hcw hbw
    rw [completeBarriers_of_one hi only]
    exact completeBarrier_entriesLeft q hd hl one hb hbw hbn
  · have hnone : ∀ j, (headRemoved u q).clearBarrier j = false :=
      fun j => Bool.eq_false_iff.mpr fun h => hex ⟨j, h⟩
    rw [completeBarriers_of_none hnone]
    exact headRemoved_entriesLeft q hd hl one hnone

/-- The same with the queue, the counters and the notices of u set beforehand. -/
theorem popHead_entriesLeft_of {s u : State} (q : HeadedQueue) (first : Nat) (p : Pwq) (c : Counters) (b : NoticeBlock)
    (hd : u.drt = s.drt) (hl : p.lossCount = min (s.pwq.lossCount + first) 65535) (one : OneBarrier s) :
    EntriesLeft s (State.popHead { u with pwq := p, counters := c, notices := b } q) [q.head] first :=
  popHead_entriesLeft q first hd hl one

/-- The head is discarded, and counted (R17, R18). -/
theorem discardHead_entriesLeft {s u : State} (q : HeadedQueue) (r : LossReason) (hd : u.drt = s.drt)
    (hl : u.pwq.lossCount = s.pwq.lossCount) (one : OneBarrier s) : EntriesLeft s (u.discardHead q r) [q.head] 1 := by
  unfold State.discardHead
  refine popHead_entriesLeft_of q 1 _ _ _ hd ?_ one
  simp only [satAdd, Config.lossMax, hl]

/-- A BARRIER that still waits after an entry has left is as it was. -/
theorem EntriesLeft.still_waiting {s t : State} {e : Entry} {first : Nat} (h : EntriesLeft s t [e] first) {j : SlotId}
    {r : Slot} (hr : t.slot j = some r) (hw : WaitingBarrier r) : s.slot j = some r := by
  cases hs : s.slot j with
  | none => rw [h.free j hs] at hr; cases hr
  | some sl =>
    by_cases hn : WaitingBarrier sl ∧ sl.postingStamp = some e.number
    · obtain ⟨-, r', hr', -, -, hc, -⟩ := h.barrier j sl 0 e hs hn.1 rfl hn.2
      rw [hr] at hr'; cases hr'
      rw [hw.2] at hc; cases hc
    · have hnot : WaitingBarrier sl → ∀ x ∈ [e], sl.postingStamp ≠ some x.number := by
        intro hsw x hx hxn
        rw [List.mem_singleton] at hx
        exact hn ⟨hsw, hx ▸ hxn⟩
      rw [h.kept j sl hs hnot] at hr
      cases hr
      rw [waitingBarrier_unstamped] at hw
      rw [unstamped_of_not_named (hnot hw)]

/-- After an entry has left there is still one WAITING BARRIER at most. -/
theorem EntriesLeft.oneBarrier {s t : State} {e : Entry} {first : Nat} (h : EntriesLeft s t [e] first)
    (one : OneBarrier s) : OneBarrier t :=
  ⟨fun i sl hs hw => one.1 i sl (h.still_waiting hs hw) hw,
    fun i j a b ha hb wa wb => one.2 i j a b (h.still_waiting ha wa) (h.still_waiting hb wb) wa wb⟩

section Cons

variable {s u t : State} {e : Entry} {gone : List Entry} {first : Nat} (h₁ : EntriesLeft s u [e] first)
  (one : OneBarrier s) {j : SlotId} {sl : Slot} (hs : s.slot j = some sl)
  (hw : WaitingBarrier sl)

include h₁ one hs hw

/-- The BARRIER waited for the first entry: it has completed, and the counter goes on from 0. -/
theorem EntriesLeft.cons_barrier_first (h₂ : EntriesLeft u t gone 1)
    (hn : sl.postingStamp = some e.number) (hlen : gone.length ≤ 65535) :
    t.pwq.lossCount = gone.length ∧
      ∃ r : Slot, t.slot j = some r ∧ r.req = sl.req ∧ r.postingStamp = none ∧ r.state = .complete ∧ r.result = some .ok ∧
        j ∉ t.drt.order ∧ r.lossCount = min (s.pwq.lossCount + first) 65535 ∧
        (gone = [] → r.dataStamp = t.notices.newest) := by
  obtain ⟨hul, r, hr, hreq, hst, hc, hres, ho, hloss, hds⟩ := h₁.barrier j sl 0 e hs hw rfl hn
  have hrw : ¬WaitingBarrier r := fun h => by rw [h.2] at hc; cases hc
  have hnone : ∀ (j' : SlotId) (r' : Slot), u.slot j' = some r' → WaitingBarrier r' →
      ∀ y ∈ gone, r'.postingStamp ≠ some y.number := by
    intro j' r' hr' hw'
    obtain rfl := one.2 j' j r' sl (h₁.still_waiting hr' hw') hs hw' hw
    rw [hr] at hr'; cases hr'
    exact absurd hw' hrw
  refine ⟨?_, r, ?_, hreq, hst, hc, hres, h₂.order j ho, hloss, fun hnil => ?_⟩
  · have hcount := h₂.count hnone
    simp only [List.length_singleton] at hul
    rw [hcount, hul]; omega
  · have hkept := h₂.kept j r hr fun h => absurd h hrw
    rwa [unstamped_of_not_named (by simp [hst])] at hkept
  · rw [h₂.quiet hnil]; exact hds rfl

/-- The BARRIER waits for a later entry: the first one is only counted. -/
theorem EntriesLeft.cons_barrier_later (hne : sl.postingStamp ≠ some e.number) :
    u.slot j = some sl ∧ u.pwq.lossCount = min (s.pwq.lossCount + first) 65535 := by
  have hnot : ∀ y ∈ [e], sl.postingStamp ≠ some y.number := by simpa using hne
  constructor
  · have hkept := h₁.kept j sl hs fun _ => hnot
    rwa [unstamped_of_not_named hnot] at hkept
  · have hcount := h₁.count fun j' sl' hs' hw' => by
      obtain rfl := one.2 j' j sl' sl hs' hs hw' hw
      rw [hs] at hs'; cases hs'
      exact hnot
    simpa using hcount

end Cons

/-- First one entry leaves, then others that are lost, of other numbers. -/
theorem EntriesLeft.cons {s u t : State} {e : Entry} {gone : List Entry} {first : Nat} (h₁ : EntriesLeft s u [e] first)
    (h₂ : EntriesLeft u t gone 1) (one : OneBarrier s) (hlen : gone.length ≤ 65535)
    (hnum : ∀ x ∈ gone, x.number ≠ e.number) : EntriesLeft s t (e :: gone) first := by
  have hmem : ∀ x ∈ [e], x ∈ e :: gone := by simp
  refine ⟨fun j hj => h₂.free j (h₁.free j hj), fun j sl hs hn => ?_, fun j sl m x hs hw hx hn => ?_, fun hnone => ?_,
    fun j hj => h₂.order j (h₁.order j hj), fun h => by simp at h⟩
  · have hfirst : WaitingBarrier sl → ∀ x ∈ [e], sl.postingStamp ≠ some x.number := fun hw x hx => hn hw x (hmem x hx)
    have hu := h₁.kept j sl hs hfirst
    rw [unstamped_cons]
    refine h₂.kept j _ hu fun hw => ?_
    rw [waitingBarrier_unstamped] at hw
    rw [unstamped_of_not_named (hfirst hw)]
    exact fun x hx => hn hw x (List.mem_cons_of_mem e hx)
  · cases m with
    | zero =>
      obtain rfl : e = x := by simpa using hx
      obtain ⟨hl, r, hr, hreq, hst, hc, hres, ho, hloss, hds⟩ := h₁.cons_barrier_first one hs hw h₂ hn hlen
      refine ⟨by rw [hl, List.length_cons]; omega, r, hr, hreq, hst, hc, hres, ho, hloss, fun hlast => hds ?_⟩
      simpa using hlast
    | succ m =>
      have hx' : gone[m]? = some x := by simpa using hx
      have hne : sl.postingStamp ≠ some e.number := by
        rw [hn]; simpa using hnum x (List.mem_of_getElem? hx')
      obtain ⟨hu, hul⟩ := h₁.cons_barrier_later one hs hw hne
      obtain ⟨hl, r, hr, hreq, hst, hc, hres, ho, hloss, hds⟩ := h₂.barrier j sl m x hu hw hx' hn
      refine ⟨by rw [hl, List.length_cons]; omega, r, hr, hreq, hst, hc, hres, ho, ?_, fun hlast => hds ?_⟩
      · rw [hloss, hul]; omega
      · simpa using hlast
  · have hu := h₁.count fun j sl hs hw x hx => hnone j sl hs hw x (hmem x hx)
    have ht := h₂.count fun j r hr hw x hx =>
      hnone j r (h₁.still_waiting hr hw) hw x (List.mem_cons_of_mem e hx)
    rw [ht, hu]; simp; omega

end Sys2Proof.PostedWrites
end

section
/-!
The heads of ABSENT nodes that follow a head that leaves (R16), how many they are, and what a decision of the scheduler and
the arbiter keep of it all.
-/

namespace Sys2Proof.PostedWrites

open Sys2Proof.Machine Sys2Proof.Safety Sys2Proof.Laws

/-! ### The run of heads with ABSENT nodes -/

theorem headAbsent_eq (s : State) (e : Entry) :
    s.headAbsent e = e.target.any fun n => (s.node n).presence == .absent := by
  unfold State.headAbsent State.absent
  cases e.target <;> rfl

theorem headAbsent_congr {s t : State} (h : t.nodes = s.nodes) (e : Entry) : t.headAbsent e = s.headAbsent e := by
  simp [headAbsent_eq, node_congr h]

theorem absentRun_congr {s t : State} (h : t.nodes = s.nodes) (l : List Entry) : absentRun t l = absentRun s l := by
  simp [absentRun, node_congr h]

theorem absentRun_cons (s : State) (e : Entry) (l : List Entry) :
    absentRun s (e :: l) = if s.headAbsent e then absentRun s l + 1 else 0 := by
  unfold absentRun
  rw [headAbsent_eq, List.takeWhile_cons]
  cases e.target.any fun n => (s.node n).presence == .absent <;> rfl

theorem absentRun_le (s : State) (l : List Entry) : absentRun s l ≤ l.length := (List.takeWhile_prefix _).length_le

/-- The head, where there is one, is READY. -/
def HeadReady (s : State) : Prop := ∀ q : HeadedQueue, s.pwq.queue = some q → q.headState = .ready

theorem headReady_of_headedBy {s : State} {l : List Entry} (h : s.pwq.queue = headedBy l) : HeadReady s := by
  intro q hq
  rw [h] at hq
  cases l with
  | nil => cases hq
  | cons e rest => cases hq; rfl

theorem popHead_headReady (s : State) (q : HeadedQueue) : HeadReady (s.popHead q) :=
  headReady_of_headedBy (State.popHead_pwq_queue s q)

theorem discardHead_headReady (s : State) (q : HeadedQueue) (r : LossReason) : HeadReady (s.discardHead q r) :=
  headReady_of_headedBy (State.discardHead_pwq_queue s q r)

theorem discardHead_postedLost (s : State) (q : HeadedQueue) (r : LossReason) :
    (s.discardHead q r).counters.postedLost = s.counters.postedLost + 1 := by
  have counted := discardHead_tallies s q r
  simp only [tallies, Prod.mk.injEq] at counted
  exact counted.1

/-- One turn of the check of R16, by the head. -/
theorem dropAbsentHeads_cases (fuel : Nat) {s : State} (hr : HeadReady s) :
    (State.dropAbsentHeads (fuel + 1) s = s ∧ absentRun s s.pwq.entries = 0) ∨
      ∃ q, s.pwq.queue = some q ∧ s.pwq.entries = q.head :: q.behind ∧
        State.dropAbsentHeads (fuel + 1) s = State.dropAbsentHeads fuel (s.discardHead q .nodeAbsent) ∧
        absentRun s s.pwq.entries =
          absentRun (s.discardHead q .nodeAbsent) (s.discardHead q .nodeAbsent).pwq.entries + 1 := by
  cases hq : s.pwq.queue with
  | none => left; simp [State.dropAbsentHeads, Pwq.entries, hq, absentRun]
  | some q =>
    have hent : s.pwq.entries = q.head :: q.behind := by unfold Pwq.entries; rw [hq]
    have turn : State.dropAbsentHeads (fuel + 1) s = if q.headState = .ready ∧ s.headAbsent q.head = true then
        State.dropAbsentHeads fuel (s.discardHead q .nodeAbsent) else s := by rw [State.dropAbsentHeads, hq]
    by_cases ha : s.headAbsent q.head = true
    · right
      refine ⟨q, rfl, hent, by rw [turn, if_pos ⟨hr q hq, ha⟩], ?_⟩
      rw [hent, absentRun_cons, if_pos ha, discardHead_entries, absentRun_congr (discardHead_nodes s q _)]
    · left
      refine ⟨by rw [turn, if_neg fun h => ha h.2], ?_⟩
      rw [hent, absentRun_cons, if_neg ha]

/-- The run leaves the queue, each entry counted as lost (R16, R17). -/
theorem dropAbsentHeads_run : ∀ (fuel : Nat) (s : State), s.pwq.entries.length ≤ fuel → HeadReady s →
    (State.dropAbsentHeads fuel s).pwq.entries = s.pwq.entries.drop (absentRun s s.pwq.entries) ∧
      (State.dropAbsentHeads fuel s).counters.postedLost =
        s.counters.postedLost + BitVec.ofNat 32 (absentRun s s.pwq.entries) := by
  intro fuel
  induction fuel with
  | zero =>
    intro s hf _
    have hnil : s.pwq.entries = [] := List.length_eq_zero_iff.mp (by omega)
    simp [State.dropAbsentHeads, hnil, absentRun]
  | succ fuel ih =>
    intro s hf hr
    rcases dropAbsentHeads_cases fuel hr with ⟨hd, hk⟩ | ⟨q, -, hent, hd, hk⟩
    · rw [hd, hk]; simp
    · have hu := discardHead_entries s q .nodeAbsent
      obtain ⟨he, hl⟩ := ih _ (by rw [hu]; rw [hent, List.length_cons] at hf; omega) (discardHead_headReady s q _)
      rw [hd, hk, he, hl, discardHead_postedLost, hent, hu]
      refine ⟨rfl, ?_⟩
      rw [BitVec.ofNat_add]; ac_rfl

/-- What the slots have of the run (R16, R31, R37). -/
theorem dropAbsentHeads_entriesLeft : ∀ (fuel : Nat) (s : State), s.pwq.entries.length ≤ fuel →
    s.pwq.entries.length ≤ 65535 → HeadReady s → OneBarrier s → (s.pwq.entries.map (·.number)).Nodup →
    s.pwq.lossCount ≤ 65535 →
    EntriesLeft s (State.dropAbsentHeads fuel s) (s.pwq.entries.take (absentRun s s.pwq.entries)) 1 := by
  intro fuel
  induction fuel with
  | zero =>
    intro s hf _ _ _ _ hl
    have hnil : s.pwq.entries = [] := List.length_eq_zero_iff.mp (by omega)
    rw [hnil]; exact EntriesLeft.nil hl
  | succ fuel ih =>
    intro s hf hmax hr one hnum hl
    rcases dropAbsentHeads_cases fuel hr with ⟨hd, hk⟩ | ⟨q, -, hent, hd, hk⟩
    · rw [hd, hk, List.take_zero]; exact EntriesLeft.nil hl
    · have hu := discardHead_entries s q .nodeAbsent
      have first := discardHead_entriesLeft q .nodeAbsent rfl rfl one
      rw [hent, List.length_cons] at hf hmax
      rw [hent, List.map_cons, List.nodup_cons] at hnum
      have rest := ih (s.discardHead q .nodeAbsent) (by rw [hu]; omega) (by rw [hu]; omega) (discardHead_headReady s q _)
        (first.oneBarrier one) (by rw [hu]; exact hnum.2) (discardHead_lossCount_le s q _)
      rw [hd, hk, hent, List.take_succ_cons]
      rw [hu] at rest ⊢
      refine first.cons rest one (by rw [List.length_take]; omega) fun x hx heq => hnum.1 ?_
      exact List.mem_map.mpr ⟨x, List.mem_of_mem_take hx, heq⟩

theorem numbersBefore_nodup (next : Half) {k : Nat} (h : k ≤ 65536) : (numbersBefore next k).Nodup := by
  unfold numbersBefore
  refine List.Nodup.map_on (fun x hx y hy hxy => ?_) List.nodup_range
  rw [List.mem_range] at hx hy
  have := congrArg BitVec.toNat hxy
  simp only [BitVec.toNat_sub, BitVec.toNat_ofNat] at this
  omega

/-- Entries of one queue have different numbers (R2, R3). -/
theorem numbers_nodup {p : Pwq} (h : PwqOk p) : (p.entries.map (·.number)).Nodup := by
  obtain ⟨hlen, -, hnum, -⟩ := h
  rw [hnum]
  exact numbersBefore_nodup _ (by omega)

end Sys2Proof.PostedWrites
end

section
/-!
A head that leaves the queue, followed through to the end of its event: with the heads of ABSENT nodes behind it, past the
decisions of the scheduler and the arbiter.
-/

namespace Sys2Proof.PostedWrites

open Sys2Proof.Machine Sys2Proof.Safety Sys2Proof.Laws

/-! ### What the decisions at the end of an event keep -/

/-- The decisions of the scheduler and the arbiter take u to t: no entry, count, notice or node record changes, a slot keeps
its request and its stamp, and a COMPLETE slot everything. -/
structure DecisionKeeps (u t : State) : Prop where
  nodes : t.nodes = u.nodes
  entries : t.pwq.entries = u.pwq.entries
  nextNumber : t.pwq.nextNumber = u.pwq.nextNumber
  lossCount : t.pwq.lossCount = u.pwq.lossCount
  tallies : tallies t.counters = tallies u.counters
  contents : contents t.notices = contents u.notices
  order : ∀ j : SlotId, j ∉ u.drt.order → j ∉ t.drt.order
  stamps : ∀ (j : SlotId) (r : Slot), u.slot j = some r →
    ∃ r' : Slot, t.slot j = some r' ∧ r'.req = r.req ∧ r'.postingStamp = r.postingStamp
  complete : ∀ (j : SlotId) (r : Slot), u.slot j = some r → r.state = .complete → t.slot j = some r

/-- Slot j is not FREE, and has this request and this posting stamp. -/
def Stamped (s : State) (j : SlotId) (req : DelayedReq) (stamp : Option Half) : Prop :=
  ∃ r : Slot, s.slot j = some r ∧ r.req = req ∧ r.postingStamp = stamp

theorem completeSlot_stamped {s : State} {j : SlotId} {req : DelayedReq} {stamp : Option Half} (i : SlotId)
    (st : ResultStatus) (h : Stamped s j req stamp) : Stamped (s.completeSlot i st) j req stamp := by
  obtain ⟨r, hr, hreq, hst⟩ := h
  by_cases hij : j = i
  · subst hij
    unfold State.completeSlot
    rw [hr]
    exact ⟨_, completeWith_slot_self s j r st, hreq, hst⟩
  · exact ⟨r, by rw [completeSlot_slot_ne s i j st hij, hr], hreq, hst⟩

theorem offerSlot_stamped {j : SlotId} {req : DelayedReq} {stamp : Option Half} : ∀ (l : List SlotId) (s : State),
    Stamped s j req stamp → Stamped (State.offerSlot l s).1 j req stamp
  | [], _, h => h
  | i :: rest, s, h => by
    unfold State.offerSlot
    split
    · exact offerSlot_stamped rest _ (completeSlot_stamped i _ h)
    · exact h

theorem grantSlot_stamped {s : State} {j : SlotId} {req : DelayedReq} {stamp : Option Half} {i : SlotId} {sl : Slot}
    (hs : s.slot i = some sl) (h : Stamped s j req stamp) : Stamped (s.grantSlot i sl) j req stamp := by
  obtain ⟨r, hr, hreq, hst⟩ := h
  by_cases hij : j = i
  · subst hij
    rw [hs] at hr; cases hr
    exact ⟨{ sl with state := .active }, slot_set_self s j _ _, hreq, hst⟩
  · exact ⟨r, (slot_set_ne s i j _ _ hij).trans hr, hreq, hst⟩

theorem grantNext_stamped {s : State} {j : SlotId} {req : DelayedReq} {stamp : Option Half} (d : Option SlotId)
    (h : Stamped s j req stamp) : Stamped (s.grantNext d) j req stamp := by
  unfold State.grantNext
  split
  · exact h
  · unfold State.grant
    split
    · split <;> exact h
    · split
      · split
        · next hs => exact grantSlot_stamped hs h
        · exact h
      · exact h
    · split <;> exact h

theorem schedule_stamped {s : State} {j : SlotId} {req : DelayedReq} {stamp : Option Half} (h : Stamped s j req stamp) :
    Stamped s.schedule j req stamp := by
  unfold State.schedule
  split
  · exact grantNext_stamped _ (offerSlot_stamped _ s.removeAbsentMembers h)
  · exact h

/-- The scheduler decides, then the arbiter. -/
theorem decisionKeeps_schedule (u : State) : DecisionKeeps u u.schedule.arbitrate where
  nodes := by simp
  entries := by rw [State.arbitrate_pwq, schedule_entries]
  nextNumber := by simp
  lossCount := by simp
  tallies := by rw [State.arbitrate_counters, schedule_tallies]
  contents := by rw [arbitrate_contents, schedule_contents]
  order j h := by rw [State.arbitrate_drt]; exact schedule_order u j h
  stamps j r h := by
    obtain ⟨r', hr', hreq, hst⟩ := schedule_stamped ⟨r, h, rfl, rfl⟩
    exact ⟨r', by rw [slot_congr (State.arbitrate_drt _), hr'], hreq, hst⟩
  complete j r h hc := by
    rw [slot_congr (State.arbitrate_drt _)]
    exact schedule_keeps_slot u j r h (.inl hc)

/-- The same after the release of the grant (R81). -/
theorem decisionKeeps_released (u : State) : DecisionKeeps u (released u) := by
  obtain ⟨h₁, h₂, h₃, h₄, h₅, h₆, h₇, h₈, h₉⟩ := decisionKeeps_schedule u.release
  exact ⟨h₁, h₂, h₃, h₄, h₅, h₆, h₇, h₈, h₉⟩

/-- The slots that waited are released, to the end of the event (R31, R37). -/
theorem EntriesLeft.stampsReleased {s u t : State} {gone : List Entry} {first : Nat} (h : EntriesLeft s u gone first)
    (k : DecisionKeeps u t) (hne : 1 ≤ gone.length) : StampsReleased s t gone first := by
  refine ⟨fun j sl hs => ?_, fun j sl m e hs hreq hst he hn => ?_, fun hnone => ?_⟩
  · by_cases hn : WaitingBarrier sl ∧ ∃ e ∈ gone, sl.postingStamp = some e.number
    · obtain ⟨hw, e, he, hen⟩ := hn
      obtain ⟨m, hm⟩ := List.mem_iff_getElem?.mp he
      obtain ⟨-, r, hr, hreq, hstamp, -⟩ := h.barrier j sl m e hs hw hm hen
      obtain ⟨r', hr', hreq', hstamp'⟩ := k.stamps j r hr
      refine ⟨r', hr', hreq'.trans hreq, ?_⟩
      rw [hstamp', hstamp, if_pos]
      exact List.any_eq_true.mpr ⟨e, he, by simp [hen]⟩
    · have hkept := h.kept j sl hs fun hw e he hen => hn ⟨hw, e, he, hen⟩
      obtain ⟨r', hr', hreq', hstamp'⟩ := k.stamps j _ hkept
      exact ⟨r', hr', hreq'.trans (unstamped_req _ _), hstamp'.trans (unstamped_postingStamp _ _)⟩
  · obtain ⟨hl, r, hr, -, -, hc, hres, ho, hloss, hds⟩ := h.barrier j sl m e hs ⟨hreq, hst⟩ he hn
    exact ⟨k.lossCount.trans hl, r, k.complete j r hr hc, hc, hres, k.order j ho, hloss,
      fun hlast => (hds hlast).trans (newest_of_contents k.contents).symm⟩
  · have hcount := h.count fun j sl hs hw => hnone j sl hs hw.1 hw.2
    rw [k.lossCount, hcount]; omega

/-! ### One head leaves -/

/-- The head q of s is about to leave from u, where it may have been noted anew as q': what its departure reads is as in s. -/
structure HeadLeaving (s : State) (q : HeadedQueue) (u : State) (q' : HeadedQueue) : Prop where
  queue : s.pwq.queue = some q
  behind : q'.behind = q.behind
  number : q'.head.number = q.head.number
  drt : u.drt = s.drt
  nextNumber : u.pwq.nextNumber = s.pwq.nextNumber
  lossCount : u.pwq.lossCount = s.pwq.lossCount
  postedLost : u.counters.postedLost = s.counters.postedLost
  notices : u.notices = s.notices

/-- Of an entry that has left, the slots know its number alone. -/
theorem EntriesLeft.congr_number {s t : State} {a b : Entry} {first : Nat} (h : EntriesLeft s t [a] first)
    (hab : a.number = b.number) : EntriesLeft s t [b] first where
  free := h.free
  kept j sl hs hn := by
    have := h.kept j sl hs (by simpa [hab] using hn)
    simpa [unstamped, hab] using this
  barrier j sl m e hs hw he hn := by
    obtain ⟨rfl, rfl⟩ : m = 0 ∧ e = b := by
      obtain ⟨hm, he⟩ := List.getElem?_eq_some_iff.mp he
      obtain rfl : m = 0 := by simpa using hm
      exact ⟨rfl, he.symm⟩
    exact h.barrier j sl 0 a hs hw rfl (hab ▸ hn)
  count hnone := h.count (by simpa [hab] using hnone)
  order := h.order
  quiet hnil := by simp at hnil

/-- Behind a head that has left, the heads of ABSENT nodes leave. -/
theorem EntriesLeft.checkHead {s d : State} {q : HeadedQueue} {first : Nat} (hq : s.pwq.queue = some q)
    (h : EntriesLeft s d [q.head] first) (he : d.pwq.entries = q.behind) (hr : HeadReady d)
    (hl : d.pwq.lossCount ≤ 65535) (ok : PwqOk s.pwq) (tab : TableOk s) :
    EntriesLeft s d.checkHead (q.head :: q.behind.take (absentRun d q.behind)) first := by
  have one := oneBarrier_of_tableOk tab
  have hent : s.pwq.entries = q.head :: q.behind := by unfold Pwq.entries; rw [hq]
  have hnum := numbers_nodup ok
  have hlen := ok.1
  rw [hent, List.length_cons] at hlen
  rw [hent, List.map_cons, List.nodup_cons] at hnum
  have run := dropAbsentHeads_entriesLeft d.pwq.entries.length d le_rfl (by rw [he]; omega) hr (h.oneBarrier one)
    (by rw [he]; exact hnum.2) hl
  rw [he] at run
  unfold State.checkHead
  rw [he]
  refine h.cons run one (by rw [List.length_take]; omega) fun x hx heq => hnum.1 ?_
  exact List.mem_map.mpr ⟨x, List.mem_of_mem_take hx, heq⟩

/-- How many entries leave behind the head, and the counters then. -/
theorem checkHead_run {d : State} {l : List Entry} (he : d.pwq.entries = l) (hr : HeadReady d) :
    d.checkHead.pwq.entries = l.drop (absentRun d l) ∧
      d.checkHead.counters.postedLost = d.counters.postedLost + BitVec.ofNat 32 (absentRun d l) := by
  subst he
  exact dropAbsentHeads_run _ d le_rfl hr

/-- The head has been delivered, and the event comes to its end (R11, R16, R31, R37). -/
theorem delivered_at_end {s u t : State} {q q' : HeadedQueue} (h : HeadLeaving s q u q')
    (k : DecisionKeeps (u.headDelivered q') t) :
    t.nodes = u.nodes ∧ t.counters.postedDelivered = u.counters.postedDelivered + 1 ∧
      t.counters.noResponses = u.counters.noResponses ∧ t.counters.garbled = u.counters.garbled ∧
      t.counters.postedLost = s.counters.postedLost + BitVec.ofNat 32 (absentRun t q.behind) ∧
      t.pwq.entries = q.behind.drop (absentRun t q.behind) ∧ t.pwq.nextNumber = s.pwq.nextNumber ∧
      (PwqOk s.pwq → TableOk s → StampsReleased s t (q.head :: q.behind.take (absentRun t q.behind)) 0) := by
  obtain ⟨c, hcount⟩ : ∃ c : Counters, c = { u.counters with postedDelivered := u.counters.postedDelivered + 1 } := ⟨_, rfl⟩
  have hd : u.headDelivered q' = (State.popHead { u with counters := c } q').checkHead := by rw [hcount]; rfl
  have hdent : (State.popHead { u with counters := c } q').pwq.entries = q.behind := (popHead_entries _ _).trans h.behind
  have hready := popHead_headReady { u with counters := c } q'
  have hnodes : (State.popHead { u with counters := c } q').nodes = u.nodes := by simp
  have hnext : (State.popHead { u with counters := c } q').pwq.nextNumber = s.pwq.nextNumber := by simp [h.nextNumber]
  have hloss := popHead_counted_lossCount_le u c q'
  have htally := popHead_tallies { u with counters := c } q'
  have left : OneBarrier s → s.pwq.lossCount ≤ 65535 →
      EntriesLeft s (State.popHead { u with counters := c } q') [q.head] 0 := fun one hl =>
    (popHead_entriesLeft_of q' 0 u.pwq c u.notices h.drt (by rw [h.lossCount]; omega) one).congr_number h.number
  rw [hd] at k
  generalize State.popHead { u with counters := c } q' = d at *
  obtain ⟨hent, hlost⟩ := checkHead_run hdent hready
  have hrun : absentRun t q.behind = absentRun d q.behind :=
    absentRun_congr (k.nodes.trans (State.checkHead_nodes d)) _
  have hk := k.tallies
  obtain ⟨-, -, -, kd, kg, kn, -⟩ := checkHead_spec d
  simp only [tallies, Prod.mk.injEq, hcount] at htally hk
  obtain ⟨c₁, c₂, c₃, c₄⟩ := htally
  obtain ⟨k₁, k₂, k₃, k₄⟩ := hk
  refine ⟨by rw [k.nodes, State.checkHead_nodes, hnodes], by rw [k₂, kd, c₂], by rw [k₄, kn, c₄], by rw [k₃, kg, c₃],
    by rw [k₁, hlost, c₁, hrun, h.postedLost], by rw [k.entries, hent, hrun],
    by rw [k.nextNumber, State.checkHead_pwq_nextNumber, hnext], fun ok tab => ?_⟩
  have hmax : s.pwq.lossCount ≤ 65535 := ok.2.2.2
  rw [h.lossCount] at hloss
  rw [hrun]
  exact ((left (oneBarrier_of_tableOk tab) hmax).checkHead h.queue hdent hready (hloss.trans hmax) ok tab).stampsReleased k
    (by simp)

/-- The head has been discarded, and the event comes to its end (R16, R17, R31, R37). -/
theorem discarded_at_end {s u t : State} {q q' : HeadedQueue} {reason : LossReason} (h : HeadLeaving s q u q')
    (hdetail : q'.head.lostDetail reason = q.head.lostDetail reason)
    (k : DecisionKeeps (u.discardHead q' reason).checkHead t) : HeadDiscarded s t q reason := by
  have hdent : (u.discardHead q' reason).pwq.entries = q.behind := (discardHead_entries _ _ _).trans h.behind
  have hready := discardHead_headReady u q' reason
  have hloss := discardHead_lossCount_le u q' reason
  obtain ⟨hent, hlost⟩ := checkHead_run hdent hready
  have hrun : absentRun t q.behind = absentRun (u.discardHead q' reason) q.behind :=
    absentRun_congr (k.nodes.trans (State.checkHead_nodes _)) _
  have hk := k.tallies
  simp only [tallies, Prod.mk.injEq] at hk
  refine ⟨?_, ?_, ?_, fun hroom => ?_, fun ok tab => ?_⟩
  · rw [hk.1, hlost, discardHead_postedLost, h.postedLost, hrun, BitVec.ofNat_add]; ac_rfl
  · rw [k.entries, hent, hrun]
  · rw [k.nextNumber]; simp [h.nextNumber]
  · obtain ⟨-, -, -, -, -, -, -, grows⟩ := checkHead_spec (u.discardHead q' reason)
    rw [k.contents]
    refine grows _ ?_
    rw [discardHead_contents, h.notices, (enterFault_contents _ _ hroom).1, hdetail]
    simp [Entry.lostDetail]
  · rw [hrun]
    have left : EntriesLeft s (u.discardHead q' reason) [q.head] 1 :=
      (discardHead_entriesLeft q' reason h.drt h.lossCount (oneBarrier_of_tableOk tab)).congr_number h.number
    exact (left.checkHead h.queue hdent hready hloss ok tab).stampsReleased k (by simp)

end Sys2Proof.PostedWrites
end

section
/-!
The responses of a command by the table of R94: those it permits are classified as they say, all others as GARBLED.
-/

namespace Sys2Proof.PostedWrites

open Sys2Proof.Machine Sys2Proof.Safety Sys2Proof.Laws

/-! ### Kinds (R195) -/

/-- The code of a response kind (R195). -/
def kindCode : ResponseKind → Byte
  | .ack => 0x81
  | .data => 0x82
  | .wait => 0x83
  | .refuse => 0x84
  | .report => 0x85
  | .empty => 0x86
  | .ident => 0x87

theorem responseKind_kindCode (k : ResponseKind) : responseKind (kindCode k) = some k := by cases k <;> rfl

theorem eq_kindCode_of_responseKind {b : Byte} {k : ResponseKind} (h : responseKind b = some k) : b = kindCode k := by
  revert b; cases k <;> decide

theorem responseKind_iff (b : Byte) (k : ResponseKind) : responseKind b = some k ↔ b = kindCode k :=
  ⟨eq_kindCode_of_responseKind, fun h => h ▸ responseKind_kindCode k⟩

/-! ### Where a response ends (R91) -/

/-- The kind and length characters can be trusted: good stop bits, a kind permitted for the command, a length in its range
(R91, R93, R94). -/
def Trusted (cmd : Command) (k l : RxChar) (kind : ResponseKind) : Prop :=
  k.stopGood = true ∧ l.stopGood = true ∧ k.value = kindCode kind ∧ permitted cmd.kind kind = true ∧
    lengthOk cmd kind l.value.toNat = true

theorem declared_eq_ok_iff (cmd : Command) (k l : RxChar) (kind : ResponseKind) (len : Nat) :
    declared cmd k l = .ok (kind, len) ↔ Trusted cmd k l kind ∧ len = l.value.toNat := by
  unfold declared Trusted
  rw [← responseKind_iff]
  cases hk : k.stopGood <;> cases hl : l.stopGood <;> simp only [Bool.not_true, Bool.not_false, Bool.or_true, Bool.true_or,
    Bool.or_self, if_true, Bool.false_eq_true, if_false, false_and, reduceCtorEq, true_and]
  cases responseKind k.value with
  | none => simp
  | some k' =>
    simp only [Option.some.injEq]
    split
    · next hp =>
      refine ⟨fun h => (by cases h), ?_⟩
      rintro ⟨⟨rfl, hp', -⟩, -⟩
      simp [hp'] at hp
    · next hp =>
      split
      · next hlen =>
        constructor
        · intro h; cases h; exact ⟨⟨rfl, by simpa using hp, hlen⟩, rfl⟩
        · rintro ⟨⟨rfl, -⟩, rfl⟩; rfl
      · next hlen =>
        refine ⟨fun h => (by cases h), ?_⟩
        rintro ⟨⟨rfl, -, hlen'⟩, -⟩
        exact absurd hlen' hlen

/-- The commands a kind of response is permitted for (R94). -/
theorem permitted_iff (c : CommandKind) (kind : ResponseKind) : permitted c kind = true ↔
    (match kind with
      | .ack => c = .wr
      | .data => c = .rd
      | .wait => c ≠ .survey
      | .refuse => c = .wr ∨ c = .rd ∨ c = .fetch
      | .report => c = .fetch
      | .empty => c = .fetch
      | .ident => c = .probe) := by
  cases kind <;> cases c <;> simp [permitted]

/-- The least and the greatest length of a kind (R93, R94). -/
def lengthBounds (cmd : Command) : ResponseKind → Nat × Nat
  | .ack => (0, 0)
  | .data => (max 1 cmd.length, min 32 cmd.length)
  | .wait => (0, 0)
  | .refuse => (1, 1)
  | .report => (2, 18)
  | .empty => (0, 0)
  | .ident => (4, 4)

theorem lengthOk_iff (cmd : Command) (kind : ResponseKind) (n : Nat) :
    lengthOk cmd kind n = true ↔ (lengthBounds cmd kind).1 ≤ n ∧ n ≤ (lengthBounds cmd kind).2 := by
  cases kind <;> simp [lengthOk, lengthBounds] <;> omega

/-- The kinds in the order of their codes (R195). -/
def responseKinds : List ResponseKind := [.ack, .data, .wait, .refuse, .report, .empty, .ident]

theorem mem_responseKinds (kind : ResponseKind) : kind ∈ responseKinds := by cases kind <;> decide

/-- The rows of R94 are those of the kinds the command permits. -/
theorem responseRows_eq (cmd : Command) : responseRows cmd =
    (responseKinds.filter (permitted cmd.kind)).map fun kind => (kindCode kind, lengthBounds cmd kind) := by
  unfold responseRows
  cases cmd.kind <;> rfl

/-- The rows of R94 and R93 name the trusted pairs. -/
theorem responseRows_any_iff (cmd : Command) (k l : RxChar) (hk : k.stopGood = true) (hl : l.stopGood = true) :
    (responseRows cmd).any (fun r => r.1 == k.value && decide (r.2.1 ≤ l.value.toNat ∧ l.value.toNat ≤ r.2.2)) = true ↔
      ∃ kind, Trusted cmd k l kind := by
  rw [responseRows_eq, List.any_map, List.any_eq_true]
  refine exists_congr fun kind => ?_
  unfold Trusted
  rw [lengthOk_iff, List.mem_filter, Function.comp_apply, Bool.and_eq_true, beq_iff_eq, decide_eq_true_iff,
    eq_comm (a := kindCode kind)]
  constructor
  · rintro ⟨⟨-, hp⟩, hcode, hlen⟩
    exact ⟨hk, hl, hcode, hp, hlen⟩
  · rintro ⟨-, -, hcode, hp, hlen⟩
    exact ⟨⟨mem_responseKinds kind, hp⟩, hcode, hlen⟩

/-- The end of R91 as the model finds it. -/
theorem endOf_eq_responseLength (cmd : Command) (chars : List RxChar) : endOf cmd chars = responseLength cmd chars := by
  match chars with
  | [] => rfl
  | [_] => rfl
  | [_, _] => rfl
  | a :: k :: l :: rest =>
    simp only [endOf, responseLength]
    cases hd : declared cmd k l with
    | ok r =>
      obtain ⟨kind, len⟩ := r
      obtain ⟨ht, rfl⟩ := (declared_eq_ok_iff cmd k l kind len).mp hd
      have hany := (responseRows_any_iff cmd k l ht.1 ht.2.1).mpr ⟨kind, ht⟩
      rw [ht.1, ht.2.1, hany]; rfl
    | error f =>
      rw [if_neg]; rfl
      intro h
      rw [Bool.and_eq_true, Bool.and_eq_true] at h
      obtain ⟨⟨hk, hl⟩, hany⟩ := h
      obtain ⟨kind, ht⟩ := (responseRows_any_iff cmd k l hk hl).mp hany
      rw [(declared_eq_ok_iff cmd k l kind _).mpr ⟨ht, rfl⟩] at hd
      cases hd

/-! ### What a response is classified as (R92 to R94, R96) -/

theorem and_mask_toNat (head : Byte) : (head &&& 0x1F).toNat = head.toNat % 32 := by
  rw [BitVec.toNat_and]
  exact Nat.and_two_pow_sub_one_eq_mod head.toNat 5

/-- The count in bits 4..0 of a REPORT's head is that of its data (R93, R193). -/
theorem bodyFault_report (head c : Byte) (data : List Byte) :
    bodyFault .report (head :: c :: data) = none ↔ head.toNat % 32 = data.length := by
  unfold bodyFault
  simp only [and_mask_toNat, List.length_cons]
  split
  · next h => simpa using h
  · next h => simpa using h

/-- A permitted response is classified as it says (R94, R96). -/
theorem classify_of_permitted {cmd : Command} {code : Byte} {content : List Byte} {o : SegOutcome}
    (h : Permitted cmd code content o) :
    responseLength cmd (responseChars code content) = 5 + content.length ∧
      classify cmd (responseChars code content) = o := by
  have spec := fun k hk hp hl h32 hb => classify_responseChars cmd code content k hk hp hl h32 hb
  rcases h with ⟨rfl, hk, rfl, rfl⟩ | ⟨rfl, hk, h₁, h₂, h₃, rfl⟩ | ⟨rfl, hk, rfl, rfl⟩ | ⟨rfl, hk, r, rfl, h₁, h₂, rfl⟩ |
    ⟨rfl, hk, head, c, data, rfl, h₁, h₂, rfl⟩ | ⟨rfl, hk, rfl, rfl⟩ | ⟨rfl, hk, h₁, rfl⟩
  · exact spec .ack rfl (by rw [hk]; rfl) rfl (by simp) rfl
  · exact spec .data rfl (by rw [hk]; rfl) (by simp [lengthOk]; omega) h₂ rfl
  · exact spec .wait rfl ((permitted_iff _ _).mpr hk) rfl (by simp) rfl
  · exact spec .refuse rfl (by rcases hk with hk | hk | hk <;> rw [hk] <;> rfl) rfl (by simp)
      (by simp [bodyFault, reasonOk, h₁, h₂])
  · exact spec .report rfl (by rw [hk]; rfl) (by simp [lengthOk]; omega) (by simp; omega)
      ((bodyFault_report head c data).mpr h₂)
  · exact spec .empty rfl (by rw [hk]; rfl) rfl (by simp) rfl
  · exact spec .ident rfl (by rw [hk]; rfl) (by simp [lengthOk, h₁]) (by omega) rfl

/-- A trusted kind with a body that passes its checks is a permitted response (R93, R94). -/
theorem permitted_of_trusted {cmd : Command} {k l : RxChar} {kind : ResponseKind} {content : List Byte}
    (ht : Trusted cmd k l kind) (hlen : content.length = l.value.toNat) (hb : bodyFault kind content = none) :
    ∃ o, Permitted cmd k.value content o := by
  obtain ⟨-, -, hv, hp, hl⟩ := ht
  rw [← hlen] at hl
  rw [hv]
  cases kind with
  | ack =>
    have hk : cmd.kind = .wr := (permitted_iff _ _).mp hp
    exact ⟨_, .inl ⟨rfl, hk, by simpa [lengthOk] using hl, rfl⟩⟩
  | data =>
    have hk : cmd.kind = .rd := (permitted_iff _ _).mp hp
    simp only [lengthOk, Bool.and_eq_true, decide_eq_true_iff, beq_iff_eq] at hl
    exact ⟨_, .inr (.inl ⟨rfl, hk, hl.1.1, hl.1.2, hl.2, rfl⟩)⟩
  | wait =>
    have hk : cmd.kind ≠ .survey := (permitted_iff _ _).mp hp
    exact ⟨_, .inr (.inr (.inl ⟨rfl, hk, by simpa [lengthOk] using hl, rfl⟩))⟩
  | refuse =>
    have hk : cmd.kind = .wr ∨ cmd.kind = .rd ∨ cmd.kind = .fetch := (permitted_iff _ _).mp hp
    obtain ⟨r, rfl⟩ := List.length_eq_one_iff.mp (by simpa [lengthOk] using hl)
    have hr : 1 ≤ r.toNat ∧ r.toNat ≤ 15 := by simpa [bodyFault, reasonOk] using hb
    exact ⟨_, .inr (.inr (.inr (.inl ⟨rfl, hk, r, rfl, hr.1, hr.2, rfl⟩)))⟩
  | report =>
    have hk : cmd.kind = .fetch := (permitted_iff _ _).mp hp
    simp only [lengthOk, Bool.and_eq_true, decide_eq_true_iff] at hl
    match content, hl, hb with
    | head :: c :: data, hl, hb =>
      have hd : head.toNat % 32 = data.length := (bodyFault_report head c data).mp hb
      simp only [List.length_cons] at hl
      exact ⟨_, .inr (.inr (.inr (.inr (.inl ⟨rfl, hk, head, c, data, rfl, by omega, hd, rfl⟩))))⟩
  | empty =>
    have hk : cmd.kind = .fetch := (permitted_iff _ _).mp hp
    exact ⟨_, .inr (.inr (.inr (.inr (.inr (.inl ⟨rfl, hk, by simpa [lengthOk] using hl, rfl⟩)))))⟩
  | ident =>
    have hk : cmd.kind = .probe := (permitted_iff _ _).mp hp
    exact ⟨_, .inr (.inr (.inr (.inr (.inr (.inr ⟨rfl, hk, by simpa [lengthOk] using hl, rfl⟩)))))⟩

/-- Characters with good stop bits are their values. -/
theorem eq_map_of_all_stopGood {l : List RxChar} (h : l.all (·.stopGood) = true) :
    l = (l.map (·.value)).map fun b => { value := b, stopGood := true } := by
  induction l with
  | nil => rfl
  | cons a rest ih =>
    rw [List.all_cons, Bool.and_eq_true] at h
    obtain ⟨ha, hrest⟩ := h
    rw [List.map_cons, List.map_cons, ← ih hrest, ← ha]

/-- Characters that pass the checks of R92 and R93 are those of a response with this kind and body. -/
theorem eq_responseChars {a k l : RxChar} {rest : List RxChar} (hgood : (a :: k :: l :: rest).all (·.stopGood) = true)
    (hsync : a.value = 0x3C) (hlen : rest.length = l.value.toNat + 2)
    (hcrc : halfBytes (segmentCrc ([k.value, l.value] ++ (rest.take l.value.toNat).map (·.value))) =
      ((rest.drop l.value.toNat).take 2).map (·.value)) :
    a :: k :: l :: rest = responseChars k.value ((rest.take l.value.toNat).map (·.value)) := by
  have hcontent : ((rest.take l.value.toNat).map (·.value)).length = l.value.toNat := by
    rw [List.length_map, List.length_take]; omega
  have hbyte : byte l.value.toNat = l.value := (BitVec.ofNat_toNat _ _).trans (BitVec.setWidth_eq _)
  have hrest : rest.map (·.value) = (rest.take l.value.toNat).map (·.value) ++
      ((rest.drop l.value.toNat).take 2).map (·.value) := by
    rw [List.take_of_length_le (l := rest.drop _) (by rw [List.length_drop]; omega), ← List.map_append,
      List.take_append_drop]
  rw [eq_map_of_all_stopGood hgood, responseChars, hcontent, hbyte, hcrc, List.append_assoc, ← hrest, ← hsync]
  rfl

/-- A response without a fault is a permitted one (R91 to R94). -/
theorem permitted_of_no_fault {cmd : Command} {chars : List RxChar} (hlen : chars.length = responseLength cmd chars)
    (hf : firstFault cmd chars = none) :
    ∃ code content o, Permitted cmd code content o ∧ chars = responseChars code content := by
  match chars, hlen, hf with
  | [], _, hf => cases hf
  | [_], _, hf => cases hf
  | [_, _], _, hf => cases hf
  | a :: k :: l :: rest, hlen, hf =>
    cases hd : declared cmd k l with
    | error f =>
      simp only [firstFault, hd] at hf
      split at hf
      · cases hf
      · split at hf <;> cases hf
    | ok r =>
      obtain ⟨kind, len⟩ := r
      obtain ⟨ht, rfl⟩ := (declared_eq_ok_iff cmd k l kind len).mp hd
      simp only [responseLength, hd, List.length_cons] at hlen
      simp only [firstFault, hd] at hf
      split at hf
      · cases hf
      rename_i ha
      split at hf
      · cases hf
      rename_i hsync
      split at hf
      · cases hf
      rename_i hrest
      split at hf
      · cases hf
      rename_i hb
      split at hf
      · rename_i hcrc
        have hrl : rest.length = l.value.toNat + 2 := by omega
        obtain ⟨o, ho⟩ := permitted_of_trusted (content := (rest.take l.value.toNat).map (·.value)) ht
          (by rw [List.length_map, List.length_take]; omega) hb
        refine ⟨k.value, _, o, ho, eq_responseChars ?_ (not_not.mp hsync) hrl hcrc⟩
        obtain ⟨hk, hl, -⟩ := ht
        simp only [List.all_cons, hk, hl, Bool.true_and]
        simpa using And.intro (by simpa using ha) (by simpa using hrest)
      · cases hf

/-- A response that R94 does not permit is GARBLED (R92 to R94). -/
theorem classify_of_faulty {cmd : Command} {chars : List RxChar} (h : Faulty cmd chars) :
    responseLength cmd chars = chars.length ∧ classify cmd chars = .garbled := by
  obtain ⟨hlen, hnone⟩ := h
  rw [endOf_eq_responseLength] at hlen
  refine ⟨hlen.symm, ?_⟩
  unfold classify
  cases hf : firstFault cmd chars with
  | some f => rfl
  | none =>
    obtain ⟨code, content, o, ho, heq⟩ := permitted_of_no_fault hlen hf
    exact absurd heq (hnone code content o ho)

end Sys2Proof.PostedWrites
end

section
/-!
The ends of the head's transaction: ACK, the window after a broadcast, every other outcome, and the expiry of its gap.
-/

namespace Sys2Proof.PostedWrites

open Sys2Proof.Machine Sys2Proof.Safety Sys2Proof.Laws

/-! ### Delivery to the head -/

/-- The Node Table takes the outcome, then the head, which is IN_FLIGHT and so not checked before (R16, R81). -/
theorem deliver_to_head {s : State} {x : Transaction} {q : HeadedQueue} (o : SegOutcome) (hr : x.requester = .p)
    (hq : s.pwq.queue = some q) (hf : q.headState = .inFlight) :
    (s.deliver x o).arbitrate = released ((s.nodeOutcome x.cmd o).headOutcome x.cmd o) := by
  have hq' : (s.nodeOutcome x.cmd o).pwq.queue = some q := by rw [State.nodeOutcome_pwq, hq]
  have hcheck : (s.nodeOutcome x.cmd o).checkHead = s.nodeOutcome x.cmd o :=
    checkHead_of_headChecked (headChecked_of_not_ready hq' (by rw [hf]; decide))
  unfold State.deliver State.granteeOutcome
  rw [hcheck, hr]
  exact release_schedule_arbitrate _

/-- What the head makes of an outcome (R11 to R14). -/
theorem headOutcome_ack {s : State} {q : HeadedQueue} (cmd : Command) (hq : s.pwq.queue = some q) :
    s.headOutcome cmd .ack = s.headAck q cmd.length := by
  unfold State.headOutcome; rw [hq]

theorem headOutcome_wait {s : State} {q : HeadedQueue} (cmd : Command) (hq : s.pwq.queue = some q) :
    s.headOutcome cmd .wait = s.headRetry q false := by
  unfold State.headOutcome; rw [hq]

theorem headOutcome_garbled {s : State} {q : HeadedQueue} (cmd : Command) (hq : s.pwq.queue = some q) :
    s.headOutcome cmd .garbled = s.headRetry q true := by
  unfold State.headOutcome; rw [hq]

theorem headOutcome_refuse {s : State} {q : HeadedQueue} (cmd : Command) (r : Byte) (hq : s.pwq.queue = some q) :
    s.headOutcome cmd (.refuse r) = (s.discardHead q (.refused r)).checkHead := by
  unfold State.headOutcome; rw [hq]

theorem headOutcome_noResponse {s : State} {q : HeadedQueue} (cmd : Command) (hq : s.pwq.queue = some q) :
    s.headOutcome cmd .noResponse =
      if s.headAbsent q.head then (s.discardHead q .nodeAbsent).checkHead else s.headRetry q true := by
  unfold State.headOutcome; rw [hq]

/-- The head after an acknowledged packet with bytes left: READY, the bytes counted (R11). -/
def acked (q : HeadedQueue) (len : Nat) : HeadedQueue :=
  { q with head := { q.head with delivered := q.head.delivered + len, attempts := 0 }
           headState := .ready, repeatPending := false }

/-- The head after a retry outcome below the limit: in GAP (R12). -/
def retried (q : HeadedQueue) (gap : Nat) (mark : Bool) : HeadedQueue :=
  { q with head := { q.head with attempts := q.head.attempts + 1 }, headState := .gap gap, repeatPending := mark }

theorem headAck_of_left {s : State} {q : HeadedQueue} {len : Nat}
    (hlt : q.head.delivered + len < q.head.data.length) (ha : s.headAbsent q.head = false) :
    s.headAck q len = { s with pwq := { s.pwq with queue := some (acked q len) } } := by
  unfold State.headAck
  simp only
  rw [if_neg (by omega)]
  refine checkHead_of_headChecked fun q' hq' _ => ?_
  cases hq'
  rw [← ha, headAbsent_eq, headAbsent_eq]; rfl

theorem headAck_of_whole {s : State} {q : HeadedQueue} {len : Nat}
    (heq : q.head.delivered + len = q.head.data.length) : s.headAck q len = s.headDelivered (acked q len) := by
  unfold State.headAck
  simp only
  rw [if_pos heq]; rfl

theorem headRetry_of_lt {s : State} {q : HeadedQueue} {mark : Bool} (h : q.head.attempts + 1 < s.params.attemptLimit) :
    s.headRetry q mark = { s with pwq := { s.pwq with queue := some (retried q s.params.retryGap mark) } } := by
  unfold State.headRetry
  simp only
  rw [if_neg (by omega)]; rfl

theorem headRetry_of_le {s : State} {q : HeadedQueue} {mark : Bool} (h : s.params.attemptLimit ≤ q.head.attempts + 1) :
    s.headRetry q mark = (s.discardHead (retried q s.params.retryGap mark) .retryExhausted).checkHead := by
  unfold State.headRetry
  simp only
  rw [if_pos h]; rfl

/-! ### The Node Table's part -/

theorem nodeOutcome_node {s : State} {cmd : Command} {n : NodeId} (o : SegOutcome) (ht : cmd.target = .node n) :
    s.nodeOutcome cmd o = s.setNode n ((s.node n).take cmd.kind s.params.silenceLimit o) := by
  unfold State.nodeOutcome; rw [ht]

theorem nodes_set_self (s : State) (n : NodeId) : s.nodes.set n (s.node n) = s.nodes := by
  unfold State.node
  rw [Fin.getElem_fin]
  exact Vector.set_getElem_self _

/-- GARBLED tells nothing about the node (R113). -/
theorem nodeOutcome_garbled (s : State) (cmd : Command) : s.nodeOutcome cmd .garbled = s := by
  unfold State.nodeOutcome
  split
  · next n _ =>
    show { s with nodes := s.nodes.set n (s.node n) } = s
    rw [nodes_set_self]
  · rfl
  · rfl

theorem headAbsent_node {s : State} {e : Entry} {n : NodeId} (ht : e.target = some n) :
    s.headAbsent e = true ↔ (s.node n).presence = .absent := by
  rw [headAbsent_eq, ht]; simp

/-! ### ACK and the broadcast window -/

/-- RESPONSE_END with the characters of an ACK to a WR (R94). -/
theorem exec_responseEnd_ack {s : State} {x : Transaction} {chars : List RxChar} (hi : InPhase s x .receiving)
    (hk : x.cmd.kind = .wr) (hc : x.received ++ chars = responseChars 0x81 []) :
    exec (.responseEnd chars) s = .next (s.deliver x .ack).arbitrate := by
  obtain ⟨hl, ho⟩ := classify_of_permitted (.inl ⟨rfl, hk, rfl, rfl⟩ : Permitted x.cmd 0x81 [] .ack)
  exact exec_responseEnd_of_classified hi chars 0x81 [] .ack hc hl ho

/-- Settles O40, by whether bytes are left. -/
theorem ackAdvancesHead : Obligations.AckAdvancesHead := by
  intro s x q n chars hi hr hk ht hq hf hqt hc
  have hexec := exec_responseEnd_ack hi hk hc
  have hnode : s.nodeOutcome x.cmd .ack = s.setNode n (s.node n).heard := nodeOutcome_node .ack ht
  have hq' : (s.setNode n (s.node n).heard).pwq.queue = some q := hq
  rw [deliver_to_head .ack hr hq hf, hnode, headOutcome_ack x.cmd hq'] at hexec
  refine ⟨fun hleft => ?_, fun hwhole => ⟨_, hexec, ?_⟩⟩
  · have hpresent : (s.setNode n (s.node n).heard).headAbsent q.head = false := by
      rw [Bool.eq_false_iff, ne_eq, headAbsent_node hqt, node_setNode_self]; simp [NodeRecord.heard]
    rw [hexec, headAck_of_left hleft hpresent]; rfl
  · rw [headAck_of_whole hwhole]
    have leaving : HeadLeaving s q (s.setNode n (s.node n).heard) (acked q x.cmd.length) :=
      ⟨hq, rfl, rfl, rfl, rfl, rfl, rfl, rfl⟩
    obtain ⟨hnodes, hdel, -, -, hlost, hent, hnext, hstamps⟩ := delivered_at_end leaving (decisionKeeps_released _)
    refine ⟨hdel, hlost, hent, hnext, ?_, fun m hm => ?_, hstamps⟩
    · rw [node_congr hnodes, node_setNode_self]; rfl
    · rw [node_congr hnodes, node_setNode_ne s n m _ hm]

/-- BROADCAST_WINDOW_EXPIRY is an ACK that the Node Table takes no part in (R15, R97). -/
theorem exec_broadcastWindowExpiry {s : State} {x : Transaction} {q : HeadedQueue} (hi : InPhase s x .window)
    (hq : s.pwq.queue = some q) : exec .broadcastWindowExpiry s = .next (released (s.headAck q x.cmd.length)) := by
  obtain ⟨hh, hx, hp⟩ := hi
  have hphase : s.inPhase .window = some x := by simp [State.inPhase, hx, hp]
  show Host.Outcome.next _ = _
  rw [State.event_of_running hh, hphase]
  unfold State.windowEnds
  rw [hq]; rfl

/-- Settles O44, by whether bytes are left. -/
theorem broadcastWindowDelivers : Obligations.BroadcastWindowDelivers := by
  intro s x q hi hq hqt
  have hexec := exec_broadcastWindowExpiry hi hq
  refine ⟨fun hleft => ?_, fun hwhole => ⟨_, hexec, ?_⟩⟩
  · have hpresent : s.headAbsent q.head = false := by unfold State.headAbsent; rw [hqt]
    rw [hexec, headAck_of_left hleft hpresent]; rfl
  · rw [headAck_of_whole hwhole]
    have leaving : HeadLeaving s q s (acked q x.cmd.length) := ⟨hq, rfl, rfl, rfl, rfl, rfl, rfl, rfl⟩
    obtain ⟨hnodes, hdel, hsilent, hgarbled, hlost, hent, -, hstamps⟩ :=
      delivered_at_end leaving (decisionKeeps_released _)
    exact ⟨hdel, hlost, hent, hnodes, hsilent, hgarbled, hstamps⟩

/-! ### The gap's expiry -/

/-- A READY head of an ABSENT node is discarded at the check (R16). -/
theorem checkHead_of_absent {s : State} {q : HeadedQueue} (hq : s.pwq.queue = some q) (hr : q.headState = .ready)
    (ha : s.headAbsent q.head = true) : s.checkHead = (s.discardHead q .nodeAbsent).checkHead := by
  have hent : s.pwq.entries = q.head :: q.behind := by unfold Pwq.entries; rw [hq]
  unfold State.checkHead
  rw [discardHead_entries, hent, List.length_cons, State.dropAbsentHeads, hq]
  simp only
  rw [if_pos ⟨hr, ha⟩]

/-- Settles O50: the head is READY again and checked, the slot's gap is over, and the scheduler decides. -/
theorem gapExpiryMakesReady : Obligations.GapExpiryMakesReady := by
  intro s hh
  refine ⟨fun q g hq hg => ?_, fun i sl g hs hg => ?_⟩
  · let u : State := { s with pwq := { s.pwq with queue := some { q with headState := .ready } } }
    have hexec : exec .headGapExpiry s = .next u.checkHead.schedule.arbitrate := by
      show Host.Outcome.next _ = _
      rw [State.event_of_running hh]
      unfold State.headGapEnds
      rw [hq]; simp only; rw [hg]
    refine ⟨fun ha => ?_, fun ha => ⟨_, hexec, ?_, ?_⟩⟩
    · have hcheck : u.checkHead = u := checkHead_of_headChecked fun q' hq' _ => by cases hq'; exact ha
      rw [hexec, hcheck]
    · simp [u]
    · rw [checkHead_of_absent (s := u) rfl rfl ha]
      have leaving : HeadLeaving s q u { q with headState := .ready } := ⟨hq, rfl, rfl, rfl, rfl, rfl, rfl, rfl⟩
      exact discarded_at_end leaving rfl (decisionKeeps_schedule _)
  · show Host.Outcome.next _ = _
    rw [State.event_of_running hh]
    unfold State.slotGapEnds
    rw [hs]; simp only; rw [if_pos (by rw [hg]; rfl)]; rfl

/-! ### Every other end of the head's transaction -/

/-- The characters end a response that is classified as o (R91). -/
theorem exec_responseEnd_of_length {s : State} {x : Transaction} {chars : List RxChar} {o : SegOutcome}
    (hi : InPhase s x .receiving) (hl : responseLength x.cmd (x.received ++ chars) = (x.received ++ chars).length)
    (ho : classify x.cmd (x.received ++ chars) = o) : exec (.responseEnd chars) s = .next (s.classified x o).arbitrate := by
  obtain ⟨hh, hx, hp⟩ := hi
  have hphase : s.inPhase .receiving = some x := by simp [State.inPhase, hx, hp]
  show Host.Outcome.next _ = _
  rw [State.event_of_running hh, hphase]
  simp only [State.respond]
  rw [hl, if_pos le_rfl, List.take_length, ho]

theorem exec_responseGapTimeout {s : State} {x : Transaction} (hi : InPhase s x .receiving) :
    exec .responseGapTimeout s = .next (s.classified x .garbled).arbitrate := by
  obtain ⟨hh, hx, hp⟩ := hi
  have hphase : s.inPhase .receiving = some x := by simp [State.inPhase, hx, hp]
  show Host.Outcome.next _ = _
  rw [State.event_of_running hh, hphase]

theorem exec_responseWindowExpiry {s : State} {x : Transaction} (hi : InPhase s x .listening) :
    exec .responseWindowExpiry s = .next (s.silent x).arbitrate := by
  obtain ⟨hh, hx, hp⟩ := hi
  have hphase : s.inPhase .listening = some x := by simp [State.inPhase, hx, hp]
  show Host.Outcome.next _ = _
  rw [State.event_of_running hh, hphase]

/-- The counters when an outcome is classified (R107). -/
def countedAs (c : Counters) (o : SegOutcome) : Counters := if o = .garbled then { c with garbled := c.garbled + 1 } else c

theorem countedAs_postedLost (c : Counters) (o : SegOutcome) : (countedAs c o).postedLost = c.postedLost := by
  unfold countedAs; split <;> rfl

/-- An end of the transaction delivers its outcome, and counts it if it is a failure (R90 to R94, R107). -/
theorem exec_of_ends {s : State} {x : Transaction} {c : Instr} {o : SegOutcome} (h : Ends s x c o) :
    ∃ k : Counters, k.postedLost = s.counters.postedLost ∧
      exec c s = .next (State.deliver { s with counters := k } x o).arbitrate := by
  obtain ⟨hh, hx, ⟨hp, rfl, rfl⟩ | ⟨hp, rfl, rfl⟩ | ⟨hp, rfl, chars, rfl, hfaulty⟩ |
    ⟨hp, code, content, chars, rfl, hchars, hpermitted⟩⟩ := h
  · exact ⟨{ s.counters with noResponses := s.counters.noResponses + 1 }, rfl, exec_responseWindowExpiry ⟨hh, hx, hp⟩⟩
  · exact ⟨countedAs s.counters .garbled, countedAs_postedLost _ _, exec_responseGapTimeout ⟨hh, hx, hp⟩⟩
  · obtain ⟨hl, ho⟩ := classify_of_faulty hfaulty
    exact ⟨countedAs s.counters .garbled, countedAs_postedLost _ _, exec_responseEnd_of_length ⟨hh, hx, hp⟩ hl ho⟩
  · obtain ⟨hl, ho⟩ := classify_of_permitted hpermitted
    refine ⟨countedAs s.counters o, countedAs_postedLost _ _, exec_responseEnd_of_length ⟨hh, hx, hp⟩ ?_ ?_⟩
    · rw [hchars, hl, responseChars_length]
    · rw [hchars, ho]

/-- Only a candidate is chosen (R78). -/
theorem chooseGrant_eq_p {sched : Scheduler} {params : Params} {p d c : Bool}
    (h : chooseGrant sched params p d c = some .p) : p = true := by
  cases p with
  | true => rfl
  | false =>
    unfold chooseGrant at h
    simp only [Bool.false_eq_true, if_false] at h
    split_ifs at h <;> cases h

/-- A head that is not READY is no candidate, and the scheduler leaves the queue (R74). -/
theorem schedule_pwq_of_not_ready {s : State} {q : HeadedQueue} (hq : s.pwq.queue = some q) (hr : q.headState ≠ .ready) :
    s.schedule.pwq = s.pwq := by
  unfold State.schedule
  split
  · simp only
    generalize hu : State.offerSlot s.removeAbsentMembers.offerList s.removeAbsentMembers = r
    have hpwq : r.1.pwq = s.pwq := by rw [← hu]; simp [State.removeAbsentMembers]
    have hp : r.1.candidateP = false := by
      unfold State.candidateP
      rw [hpwq, hq]
      simpa using hr
    rw [← hpwq]
    unfold State.grantNext
    split
    · rfl
    · next g hg =>
      cases g with
      | p => exact absurd (chooseGrant_eq_p hg) (by rw [hp]; decide)
      | d =>
        simp only [State.grant]
        split
        · split
          · simp
          · rfl
        · rfl
      | c =>
        simp only [State.grant]
        split
        · simp
        · simp
        · rfl
  · rfl

/-- A retry outcome at the end of the event: below the limit the head waits in GAP, at it the head is discarded (R10, R12,
R17). -/
theorem retry_at_end {s u : State} {q : HeadedQueue} (mark : Bool) (h : HeadLeaving s q u q) (hp : u.pwq = s.pwq)
    (hparams : u.params = s.params) :
    (q.head.attempts + 1 < s.params.attemptLimit →
      (released (u.headRetry q mark)).pwq = { s.pwq with queue := some (retried q s.params.retryGap mark) } ∧
        (released (u.headRetry q mark)).counters.postedLost = s.counters.postedLost) ∧
      (s.params.attemptLimit ≤ q.head.attempts + 1 →
        HeadDiscarded s (released (u.headRetry q mark)) q .retryExhausted) := by
  rw [← hparams]
  refine ⟨fun hlt => ?_, fun hle => ?_⟩
  · rw [headRetry_of_lt hlt]
    generalize hv : ({ u with pwq := { u.pwq with queue := some (retried q u.params.retryGap mark) } } : State) = v
    have hvp : v.pwq = { s.pwq with queue := some (retried q u.params.retryGap mark) } := by rw [← hv, ← hp]
    have hvc : v.counters.postedLost = s.counters.postedLost := by rw [← hv]; exact h.postedLost
    have keeps := (decisionKeeps_released v).tallies
    simp only [tallies, Prod.mk.injEq] at keeps
    refine ⟨?_, keeps.1.trans hvc⟩
    unfold released
    rw [State.arbitrate_pwq, ← hvp]
    refine schedule_pwq_of_not_ready (q := retried q u.params.retryGap mark) ?_ (by simp [retried])
    show v.pwq.queue = _
    rw [hvp]
  · rw [headRetry_of_le hle]
    have leaving : HeadLeaving s q u (retried q u.params.retryGap mark) :=
      ⟨h.queue, rfl, rfl, h.drt, h.nextNumber, h.lossCount, h.postedLost, h.notices⟩
    exact discarded_at_end leaving rfl (decisionKeeps_released _)

/-- The node records at the end of an event whose outcome the head has taken. -/
theorem headOutcome_nodes_at_end (u : State) (cmd : Command) (o : SegOutcome) :
    (released (u.headOutcome cmd o)).nodes = u.nodes :=
  (decisionKeeps_released _).nodes.trans (State.headOutcome_nodes u cmd o)

/-- Failures are counted before the head takes the outcome (R107). -/
theorem headOutcome_garbled_at_end (u : State) (cmd : Command) (o : SegOutcome) :
    (released (u.headOutcome cmd o)).counters.garbled = u.counters.garbled := by
  have keeps := (decisionKeeps_released (u.headOutcome cmd o)).tallies
  have head := headOutcome_misses u cmd o
  simp only [tallies, misses, Prod.mk.injEq] at keeps head
  exact keeps.2.2.1.trans head.2

/-- RESPONSE_GAP_TIMEOUT with the head's packet in flight (R12, R91, R113). -/
theorem gapTimeout_retries_head {s : State} {x : Transaction} {q : HeadedQueue} (hi : InPhase s x .receiving)
    (hr : x.requester = .p) (hq : s.pwq.queue = some q) (hf : q.headState = .inFlight) :
    exec .responseGapTimeout s = .next (released
      (State.headOutcome { s with counters := countedAs s.counters .garbled } x.cmd .garbled)) := by
  rw [exec_responseGapTimeout hi]
  show Host.Outcome.next (State.deliver { s with counters := countedAs s.counters .garbled } x .garbled).arbitrate = _
  rw [deliver_to_head .garbled hr (s := { s with counters := countedAs s.counters .garbled }) hq hf, nodeOutcome_garbled]

theorem headLeaving_counted {s : State} {q : HeadedQueue} {c : Counters} (hq : s.pwq.queue = some q)
    (hc : c.postedLost = s.counters.postedLost) : HeadLeaving s q { s with counters := c } q :=
  ⟨hq, rfl, rfl, rfl, rfl, rfl, hc, rfl⟩

/-- Settles O41, outcome by outcome. -/
theorem failedPacketRetriesHead : Obligations.FailedPacketRetriesHead := by
  refine ⟨fun s x q n hi hr ht hq hf => ?_, fun s x q n c o hends hack hr hk ht hq hf hqt => ?_⟩
  · have hexec := gapTimeout_retries_head hi hr hq hf
    have hretry : State.headOutcome { s with counters := countedAs s.counters .garbled } x.cmd .garbled =
        State.headRetry { s with counters := countedAs s.counters .garbled } q true := headOutcome_garbled x.cmd hq
    refine ⟨fun hlt => ?_, fun hle hroom => ⟨_, hexec, ?_, ?_, ?_⟩⟩
    · rw [hexec, hretry, headRetry_of_lt (s := { s with counters := countedAs s.counters .garbled }) hlt]; rfl
    · exact headOutcome_garbled_at_end _ _ _
    · exact headOutcome_nodes_at_end _ _ _
    · rw [hretry]
      exact (retry_at_end true (headLeaving_counted hq (countedAs_postedLost _ _)) rfl rfl).2 hle
  · obtain ⟨k, hlost, hexec⟩ := exec_of_ends hends
    rw [deliver_to_head o hr (s := { s with counters := k }) hq hf, nodeOutcome_node o ht] at hexec
    generalize hu : ({ s with counters := k } : State).setNode n _ = u at hexec
    have hup : u.pwq = s.pwq := by rw [← hu]; rfl
    have huparams : u.params = s.params := by rw [← hu]; rfl
    have huq : u.pwq.queue = some q := by rw [hup, hq]
    have leaving : HeadLeaving s q u q := by
      refine ⟨hq, rfl, rfl, ?_, by rw [hup], by rw [hup], ?_, ?_⟩
      · rw [← hu]; rfl
      · rw [← hu]; exact hlost
      · rw [← hu]; rfl
    have hnode : (released (u.headOutcome x.cmd o)).node n = u.node n := node_congr (headOutcome_nodes_at_end u x.cmd o) n
    refine ⟨_, hexec, ?_⟩
    rw [hnode]
    cases o with
    | ack => exact absurd rfl hack
    | wait =>
      rw [headOutcome_wait x.cmd huq]
      refine ⟨fun _ => ?_, fun r h => (by cases h), fun h => (by cases h)⟩
      simpa [retried] using retry_at_end false leaving hup huparams
    | garbled =>
      rw [headOutcome_garbled x.cmd huq]
      refine ⟨fun _ => ?_, fun r h => (by cases h), fun h => (by cases h)⟩
      simpa [retried] using retry_at_end true leaving hup huparams
    | refuse r =>
      rw [headOutcome_refuse x.cmd r huq]
      refine ⟨fun h => (by simp at h), fun r' h => ?_, fun h => (by cases h)⟩
      cases h
      exact discarded_at_end leaving rfl (decisionKeeps_released _)
    | noResponse =>
      rw [headOutcome_noResponse x.cmd huq]
      by_cases ha : u.headAbsent q.head = true
      · rw [if_pos ha]
        refine ⟨fun h => ?_, fun r h => (by cases h), fun _ _ => ?_⟩
        · simp [(headAbsent_node hqt).mp ha] at h
        · exact discarded_at_end leaving rfl (decisionKeeps_released _)
      · rw [if_neg ha]
        refine ⟨fun _ => ?_, fun r h => (by cases h), fun _ h => absurd ((headAbsent_node hqt).mpr h) ha⟩
        simpa [retried] using retry_at_end true leaving hup huparams
    | data b => exact ⟨fun h => (by simp at h), fun r h => (by cases h), fun h => (by cases h)⟩
    | report m c d => exact ⟨fun h => (by simp at h), fun r h => (by cases h), fun h => (by cases h)⟩
    | empty => exact ⟨fun h => (by simp at h), fun r h => (by cases h), fun h => (by cases h)⟩
    | ident b => exact ⟨fun h => (by simp at h), fun r h => (by cases h), fun h => (by cases h)⟩

end Sys2Proof.PostedWrites
end

section
/-!
The entry into RESETTING: the queue's discard under one summary fault, then the table slot by slot (R19, R46).
-/

namespace Sys2Proof.PostedWrites

open Sys2Proof.Machine Sys2Proof.Safety Sys2Proof.Laws

/-! ### One slot (R46, R62) -/

/-- A slot that the reset completes: WAITING or ACTIVE. -/
def Running (sl : Slot) : Prop := sl.state = .waiting ∨ sl.state = .active

/-- The status a running slot gets. -/
def resetStatus (sl : Slot) : ResultStatus := if sl.state = .waiting ∧ sl.req = .barrier then .ok else .segmentReset

theorem resetSlot_of_barrier {s : State} {i : SlotId} {sl : Slot} (hs : s.slot i = some sl) (hb : WaitingBarrier sl) :
    s.resetSlot i = s.completeBarrier i := by
  unfold State.resetSlot
  rw [hs]; simp only; rw [hb.2]; simp only; rw [if_pos hb.1]

theorem resetSlot_of_running {s : State} {i : SlotId} {sl : Slot} (hs : s.slot i = some sl) (hr : Running sl)
    (hb : ¬WaitingBarrier sl) : s.resetSlot i = s.completeWith i sl .segmentReset := by
  unfold State.resetSlot
  rw [hs]; simp only
  rcases hr with h | h
  · rw [h]; simp only; rw [if_neg fun hq => hb ⟨hq, h⟩]
  · rw [h]

theorem resetSlot_of_complete {s : State} {i : SlotId} {sl : Slot} (hs : s.slot i = some sl) (hc : sl.state = .complete) :
    s.resetSlot i = s := by
  unfold State.resetSlot
  rw [hs]; simp only; rw [hc]

theorem resetSlot_of_orphaned {s : State} {i : SlotId} {sl : Slot} (hs : s.slot i = some sl)
    (ho : sl.state = .orphaned) : s.resetSlot i = s.freeSlot i := by
  unfold State.resetSlot
  rw [hs]; simp only; rw [ho]

theorem resetSlot_of_free {s : State} {i : SlotId} (hs : s.slot i = none) : s.resetSlot i = s := by
  unfold State.resetSlot
  rw [hs]

theorem completed_dataStamp (sl : Slot) (r : ResultStatus) (stamp : NoticeStamp) (discardTime : Nat) :
    (sl.completed r stamp discardTime).dataStamp = stamp := rfl

/-- The record of a running slot after its reset; a BARRIER has the posted-loss count in it. -/
theorem resetSlot_running_slot {s : State} {i : SlotId} {sl : Slot} (hs : s.slot i = some sl) (hr : Running sl) :
    ∃ k, (WaitingBarrier sl → k = s.pwq.lossCount) ∧ (s.resetSlot i).slot i =
      some (Slot.completed { sl with lossCount := k } (resetStatus sl) s.notices.newest s.params.discardTime) := by
  by_cases hb : WaitingBarrier sl
  · refine ⟨s.pwq.lossCount, fun _ => rfl, ?_⟩
    rw [resetSlot_of_barrier hs hb, completeBarrier_slot_self hs, resetStatus, if_pos ⟨hb.2, hb.1⟩]
  · refine ⟨sl.lossCount, fun h => absurd h hb, ?_⟩
    rw [resetSlot_of_running hs hr hb, completeWith_slot_self, resetStatus, if_neg fun h => hb ⟨h.2, h.1⟩]

theorem completeWith_hint {s : State} {i : SlotId} {sl : Slot} (r : ResultStatus) (hn : sl.notify = true) :
    i ∈ (s.completeWith i sl r).notices.ready := by
  simp [hn, NoticeBlock.addHint, allSlots]

/-- With NOTIFY set its hint is on the Ready List (R43). -/
theorem resetSlot_hint {s : State} {i : SlotId} {sl : Slot} (hs : s.slot i = some sl) (hr : Running sl)
    (hn : sl.notify = true) : i ∈ (s.resetSlot i).notices.ready := by
  by_cases hb : WaitingBarrier sl
  · rw [resetSlot_of_barrier hs hb]
    unfold State.completeBarrier
    rw [hs]
    exact completeWith_hint (sl := { sl with lossCount := s.pwq.lossCount }) .ok hn
  · rw [resetSlot_of_running hs hr hb]
    exact completeWith_hint .segmentReset hn

/-- Only a WAITING BARRIER reads the posted-loss counter (R37). -/
theorem resetSlot_lossCount {s : State} {i : SlotId} (h : ∀ sl, s.slot i = some sl → ¬WaitingBarrier sl) :
    (s.resetSlot i).pwq.lossCount = s.pwq.lossCount := by
  unfold State.resetSlot
  split
  · rfl
  · next sl hs =>
    cases hst : sl.state with
    | waiting =>
      simp only
      rw [if_neg fun hq => h sl hs ⟨hq, hst⟩]; rfl
    | active => rfl
    | complete => rfl
    | orphaned => rfl

theorem resetSlot_tallies (s : State) (i : SlotId) : tallies (s.resetSlot i).counters = tallies s.counters := by
  unfold State.resetSlot
  split
  · rfl
  · next sl hs =>
    cases sl.state with
    | waiting =>
      simp only
      split
      · unfold State.completeBarrier; rw [hs]; rfl
      · rfl
    | active => rfl
    | complete => rfl
    | orphaned => rfl

/-! ### All slots -/

theorem resetFold_lossCount (l : List SlotId) (hl : l.Nodup) : ∀ s : State,
    (∀ j ∈ l, ∀ sl, s.slot j = some sl → ¬WaitingBarrier sl) →
    (l.foldl State.resetSlot s).pwq.lossCount = s.pwq.lossCount := by
  induction l with
  | nil => intro s _; rfl
  | cons a rest ih =>
    intro s h
    rw [List.nodup_cons] at hl
    rw [List.foldl_cons, ih hl.2, resetSlot_lossCount (h a (by simp))]
    intro j hj sl hs
    rw [resetSlot_slot_ne s a j fun hja => hl.1 (hja ▸ hj)] at hs
    exact h j (by simp [hj]) sl hs

theorem resetSlots_lossCount {s : State} (h : ∀ (j : SlotId) (sl : Slot), s.slot j = some sl → ¬WaitingBarrier sl) :
    s.resetSlots.pwq.lossCount = s.pwq.lossCount := by
  unfold State.resetSlots
  exact resetFold_lossCount allSlots (List.nodup_finRange 8) s fun j _ => h j

theorem resetSlots_tallies (s : State) : tallies s.resetSlots.counters = tallies s.counters :=
  foldl_keeps (fun t : State => tallies t.counters) State.resetSlot resetSlot_tallies allSlots s

/-- The reset meets slot i in a state w, where it and the notices are still as in s, and what it then does to the slot is
what the reset leaves. -/
structure SlotReset (s : State) (i : SlotId) (w : State) : Prop where
  before : w.slot i = s.slot i
  queue : w.notices.queue = s.notices.queue
  params : w.params = s.params
  order : ∀ j ∈ w.drt.order, j ∈ s.drt.order
  after : s.resetSlots.slot i = (w.resetSlot i).slot i
  ready : i ∈ (w.resetSlot i).notices.ready → i ∈ s.resetSlots.notices.ready
  left : ∀ j ∈ s.resetSlots.drt.order, j ∈ (w.resetSlot i).drt.order
  lossBefore : (∀ (j : SlotId) (sl : Slot), j ≠ i → s.slot j = some sl → ¬WaitingBarrier sl) →
    w.pwq.lossCount = s.pwq.lossCount
  lossAfter : (∀ (j : SlotId) (sl : Slot), j ≠ i → s.slot j = some sl → ¬WaitingBarrier sl) →
    s.resetSlots.pwq.lossCount = (w.resetSlot i).pwq.lossCount

theorem exists_slotReset (s : State) (i : SlotId) : ∃ w, SlotReset s i w := by
  obtain ⟨before, after, hsplit, hb, ha⟩ := allSlots_split i
  have hnodup : (before ++ i :: after).Nodup := hsplit ▸ List.nodup_finRange 8
  rw [List.nodup_append, List.nodup_cons] at hnodup
  obtain ⟨hbn, ⟨-, han⟩, hdis⟩ := hnodup
  have hfold : s.resetSlots = after.foldl State.resetSlot ((before.foldl State.resetSlot s).resetSlot i) := by
    unfold State.resetSlots
    rw [hsplit, List.foldl_append, List.foldl_cons]
  refine ⟨before.foldl State.resetSlot s, resetFold_slot before i hb s, ?_, ?_, resetFold_order before s, ?_, ?_, ?_, ?_, ?_⟩
  · exact foldl_keeps (fun t : State => t.notices.queue) _ (fun t j => State.resetSlot_notices_queue t j) before s
  · exact foldl_keeps (fun t : State => t.params) _ (fun t j => State.resetSlot_params t j) before s
  · rw [hfold, resetFold_slot after i ha]
  · rw [hfold]; exact resetFold_ready after i ha _
  · rw [hfold]; exact resetFold_order after _
  · intro h
    exact resetFold_lossCount before hbn s fun j hj sl => h j sl fun hji => hb (hji ▸ hj)
  · intro h
    rw [hfold]
    refine resetFold_lossCount after han _ fun j hj sl hs => ?_
    have hji : j ≠ i := fun hji => ha (hji ▸ hj)
    have hjb : j ∉ before := fun hjb => hdis j hjb j (by simp [hj]) rfl
    rw [resetSlot_slot_ne _ i j hji, resetFold_slot before j hjb] at hs
    exact h j sl hji hs

/-! ### The state the slots are reset from -/

/-- Segment Control, engine, scheduler and queue have entered RESETTING, and every stamp is none (R19, R31, R82, R101,
R103). -/
def emptied (s : State) (cause : RestartCause) : State := (s.segEnterResetting cause).abandon.discardAll.clearStamps

theorem enterResetting_eq (s : State) (cause : RestartCause) :
    s.enterResetting cause = (emptied s cause).resetSlots.resetLearned := rfl

theorem resetLearned_drt (s : State) : s.resetLearned.drt = s.drt := rfl

theorem resetLearned_notices (s : State) : s.resetLearned.notices = s.notices := rfl

theorem resetLearned_counters (s : State) : s.resetLearned.counters = s.counters := rfl

theorem clearStamps_order (s : State) : s.clearStamps.drt.order = s.drt.order := rfl

theorem clearStamps_notices (s : State) : s.clearStamps.notices = s.notices := rfl

theorem emptied_slot (s : State) (cause : RestartCause) (i : SlotId) :
    (emptied s cause).slot i = (s.slot i).map fun sl => { sl with postingStamp := none } := by
  unfold emptied State.clearStamps
  simp [State.slot, Drt.mapSlots, State.abandon, State.segEnterResetting]

theorem emptied_order (s : State) (cause : RestartCause) : (emptied s cause).drt.order = s.drt.order := by
  unfold emptied
  rw [clearStamps_order, State.discardAll_drt]; rfl

theorem emptied_params (s : State) (cause : RestartCause) : (emptied s cause).params = s.params :=
  State.discardAll_params (s.segEnterResetting cause).abandon

/-- All entries leave under one fault (R19). -/
theorem discardAll_of_none {s : State} (h : s.pwq.queue = none) : s.discardAll = s := by
  unfold State.discardAll; rw [h]

theorem discardAll_pwq (s : State) : s.discardAll.pwq =
    { s.pwq with queue := none
                 lossCount := if s.pwq.queue = none then s.pwq.lossCount
                   else min (s.pwq.lossCount + s.pwq.entries.length) 65535 } := by
  unfold State.discardAll Pwq.entries
  cases hq : s.pwq.queue with
  | none => simp [← hq]
  | some h => simp [satAdd, Config.lossMax]

theorem discardAll_postedLost (s : State) :
    s.discardAll.counters.postedLost = s.counters.postedLost + BitVec.ofNat 32 s.pwq.entries.length := by
  unfold State.discardAll Pwq.entries
  cases s.pwq.queue with
  | none => simp
  | some h => simp

theorem discardAll_notices {s : State} {h : HeadedQueue} (hq : s.pwq.queue = some h) :
    s.discardAll.notices = s.notices.enterFault (Pwq.summary h) := by
  unfold State.discardAll; rw [hq]

theorem emptied_pwq (s : State) (cause : RestartCause) : (emptied s cause).pwq =
    { s.pwq with queue := none
                 lossCount := if s.pwq.queue = none then s.pwq.lossCount
                   else min (s.pwq.lossCount + s.pwq.entries.length) 65535 } :=
  discardAll_pwq (s.segEnterResetting cause).abandon

theorem emptied_postedLost (s : State) (cause : RestartCause) : (emptied s cause).counters.postedLost =
    s.counters.postedLost + BitVec.ofNat 32 s.pwq.entries.length :=
  discardAll_postedLost (s.segEnterResetting cause).abandon

theorem emptied_notices_of_none {s : State} (cause : RestartCause) (h : s.pwq.queue = none) :
    (emptied s cause).notices = s.notices := by
  unfold emptied
  rw [clearStamps_notices, discardAll_of_none (s := (s.segEnterResetting cause).abandon) h]; rfl

theorem emptied_notices_of_some {s : State} (cause : RestartCause) {h : HeadedQueue} (hq : s.pwq.queue = some h) :
    (emptied s cause).notices = s.notices.enterFault (Pwq.summary h) :=
  discardAll_notices (s := (s.segEnterResetting cause).abandon) hq

/-! ### The state after the entry -/

/-- A slot that is not FREE, met by the reset: what it finds in w, and what is left. -/
theorem enterResetting_slot (s : State) (cause : RestartCause) (i : SlotId) :
    ∃ w, SlotReset (emptied s cause) i w ∧ (s.enterResetting cause).slot i = (w.resetSlot i).slot i ∧
      w.slot i = (s.slot i).map fun sl => { sl with postingStamp := none } := by
  obtain ⟨w, hw⟩ := exists_slotReset (emptied s cause) i
  refine ⟨w, hw, ?_, hw.before.trans (emptied_slot s cause i)⟩
  rw [enterResetting_eq, slot_congr (resetLearned_drt _), hw.after]

theorem enterResetting_order {s : State} (cause : RestartCause) (h : OrderOk s.drt) :
    (s.enterResetting cause).drt.order = [] := by
  refine List.eq_nil_iff_forall_not_mem.mpr fun j hj => ?_
  rw [enterResetting_eq, resetLearned_drt] at hj
  obtain ⟨w, hw, -, hslot⟩ := enterResetting_slot s cause j
  obtain ⟨hjw, hstate⟩ := resetSlot_order w j j (hw.left j hj)
  have hjs : j ∈ s.drt.order := emptied_order s cause ▸ hw.order j hjw
  have hwait : isWaiting (s.slot j) = true := (h.2 j).mp hjs
  cases hs : s.slot j with
  | none => rw [hs] at hwait; cases hwait
  | some sl =>
    rw [hs] at hslot hwait
    rcases hstate rfl with hnone | ⟨r, hr, hc⟩
    · rw [hslot] at hnone; cases hnone
    · rw [hslot] at hr; cases hr
      simp only at hc
      simp [isWaiting, hc] at hwait

/-- Segment Control, engine and scheduler (R82, R101, R103). -/
theorem enterResetting_control (s : State) (cause : RestartCause) :
    (s.enterResetting cause).seg =
        { s.seg with state := .resetting, hold := some s.params.segResetHold, settle := none, cause := cause } ∧
      (s.enterResetting cause).segRst = true ∧ (s.enterResetting cause).engine = { txn := none, turnaround := none } ∧
      (s.enterResetting cause).sched = { delayedShare := 0, collectShare := 0 } := by
  simp [State.enterResetting, State.resetLearned, State.clearStamps, State.abandon, State.segEnterResetting]

/-- A node's record: the attributes kept, what was learned cleared (R122). -/
theorem enterResetting_node (s : State) (cause : RestartCause) (n : NodeId) :
    (s.enterResetting cause).node n = (s.node n).reset := by
  simp [State.enterResetting, State.resetLearned, State.clearStamps, State.abandon, State.segEnterResetting, State.node]

theorem enterResetting_pwq_queue (s : State) (cause : RestartCause) : (s.enterResetting cause).pwq.queue = none := by
  rw [enterResetting_eq, resetLearned_pwq, State.resetSlots_pwq_queue, emptied_pwq]

theorem enterResetting_postedLost (s : State) (cause : RestartCause) : (s.enterResetting cause).counters.postedLost =
    s.counters.postedLost + BitVec.ofNat 32 s.pwq.entries.length := by
  have counted := resetSlots_tallies (emptied s cause)
  simp only [tallies, Prod.mk.injEq] at counted
  rw [enterResetting_eq, resetLearned_counters, counted.1, emptied_postedLost]

/-- The posted-loss counter with the entries just discarded, saturating (R18, R19). -/
def lossWithAll (s : State) : Nat :=
  if s.pwq.queue = none then s.pwq.lossCount else min (s.pwq.lossCount + s.pwq.entries.length) 65535

theorem emptied_lossCount (s : State) (cause : RestartCause) : (emptied s cause).pwq.lossCount = lossWithAll s := by
  rw [emptied_pwq]; rfl

/-- A WAITING BARRIER of the emptied state is one of s. -/
theorem emptied_waitingBarrier {s : State} {cause : RestartCause} {j : SlotId} {r : Slot}
    (hr : (emptied s cause).slot j = some r) (hw : WaitingBarrier r) : ∃ sl, s.slot j = some sl ∧ WaitingBarrier sl := by
  rw [emptied_slot] at hr
  obtain ⟨sl, hs, rfl⟩ := Option.map_eq_some_iff.mp hr
  exact ⟨sl, hs, hw⟩

theorem enterResetting_lossCount {s : State} (cause : RestartCause)
    (h : ∀ (i : SlotId) (sl : Slot), s.slot i = some sl → ¬WaitingBarrier sl) :
    (s.enterResetting cause).pwq.lossCount = lossWithAll s := by
  rw [enterResetting_eq, resetLearned_pwq, ← emptied_lossCount s cause]
  refine resetSlots_lossCount fun j r hr hw => ?_
  obtain ⟨sl, hs, hsw⟩ := emptied_waitingBarrier hr hw
  exact h j sl hs hsw

/-- The BARRIER that waits reads the counter, which starts from 0 then (R37). -/
theorem enterResetting_barrier {s : State} (cause : RestartCause) {i : SlotId} {sl : Slot} (hk : KeysDistinct s.drt)
    (hs : s.slot i = some sl) (hb : WaitingBarrier sl) : (s.enterResetting cause).pwq.lossCount = 0 ∧
      ∃ r : Slot, (s.enterResetting cause).slot i = some r ∧ r.lossCount = lossWithAll s := by
  obtain ⟨w, hw, hafter, hslot⟩ := enterResetting_slot s cause i
  rw [hs] at hslot
  have alone : ∀ (j : SlotId) (r : Slot), j ≠ i → (emptied s cause).slot j = some r → ¬WaitingBarrier r := by
    intro j r hj hr hrw
    obtain ⟨c, hc, hcw⟩ := emptied_waitingBarrier hr hrw
    exact hj (hk j i c sl hc hs (by rw [hcw.2]; rfl) (by rw [hb.2]; rfl) (hcw.1.trans hb.1.symm))
  have hwb : WaitingBarrier { sl with postingStamp := none } := hb
  rw [enterResetting_eq, resetLearned_pwq, hw.lossAfter alone, ← enterResetting_eq, hafter, resetSlot_of_barrier hslot hwb]
  refine ⟨completeBarrier_lossCount hslot, _, completeBarrier_slot_self hslot, ?_⟩
  exact (hw.lossBefore alone).trans (emptied_lossCount s cause)

/-- A running slot completes, with its progress kept and a stamp that names the newest notice (R41, R46, R62, R66). -/
theorem enterResetting_running {s : State} (cause : RestartCause) {i : SlotId} {sl : Slot} (hs : s.slot i = some sl)
    (hr : Running sl) : ((sl.notify = true → i ∈ (s.enterResetting cause).notices.ready) ∧
      ∃ k, (s.enterResetting cause).slot i = some (Slot.completed { sl with postingStamp := none, lossCount := k }
        (resetStatus sl) (s.enterResetting cause).notices.newest s.params.discardTime)) := by
  obtain ⟨w, hw, hafter, hslot⟩ := enterResetting_slot s cause i
  rw [hs] at hslot
  have hwr : Running { sl with postingStamp := none } := hr
  obtain ⟨k, -, hk⟩ := resetSlot_running_slot hslot hwr
  have hready : sl.notify = true → i ∈ (s.enterResetting cause).notices.ready := by
    intro hn
    rw [enterResetting_eq, resetLearned_notices]
    exact hw.ready (resetSlot_hint hslot hwr hn)
  have hnewest : w.notices.newest = (s.enterResetting cause).notices.newest := by
    unfold NoticeBlock.newest
    rw [enterResetting_eq, resetLearned_notices, State.resetSlots_notices_queue, hw.queue]
  refine ⟨hready, k, ?_⟩
  rw [hafter, hk, hnewest, hw.params, emptied_params]; rfl

theorem enterResetting_complete {s : State} (cause : RestartCause) {i : SlotId} {sl : Slot} (hs : s.slot i = some sl)
    (hc : sl.state = .complete) : (s.enterResetting cause).slot i = some { sl with postingStamp := none } := by
  obtain ⟨w, -, hafter, hslot⟩ := enterResetting_slot s cause i
  rw [hs] at hslot
  rw [hafter, resetSlot_of_complete hslot hc, hslot]; rfl

theorem enterResetting_orphaned {s : State} (cause : RestartCause) {i : SlotId} {sl : Slot} (hs : s.slot i = some sl)
    (ho : sl.state = .orphaned) : (s.enterResetting cause).slot i = none := by
  obtain ⟨w, -, hafter, hslot⟩ := enterResetting_slot s cause i
  rw [hs] at hslot
  rw [hafter, resetSlot_of_orphaned hslot ho]
  exact slot_set_self w i none _

theorem enterResetting_free {s : State} (cause : RestartCause) {i : SlotId} (hs : s.slot i = none) :
    (s.enterResetting cause).slot i = none := by
  obtain ⟨w, -, hafter, hslot⟩ := enterResetting_slot s cause i
  rw [hs] at hslot
  rw [hafter, resetSlot_of_free hslot, hslot]; rfl

/-! ### The notices -/

theorem enterFault_of_room {b : NoticeBlock} (d : FaultDetail) (h : b.queue.length < 24) : b.enterFault d =
    { b with queue := b.queue ++ [{ number := b.next, payload := .fault b.lostFaults d, state := .unsent, sendCount := 0 }]
             next := b.next + 1
             lostFaults := 0 } := by
  unfold NoticeBlock.enterFault
  rw [if_pos (show b.hasRoom = true from decide_eq_true h)]

theorem enterFault_of_full {b : NoticeBlock} (d : FaultDetail) (h : 24 ≤ b.queue.length) :
    b.enterFault d = { b with lostFaults := min (b.lostFaults + 1) 255 } := by
  have full : ¬b.hasRoom = true := fun hc => absurd (show b.queue.length < 24 from of_decide_eq_true hc) (by omega)
  unfold NoticeBlock.enterFault
  rw [if_neg full]; rfl

/-- The reset of the slots leaves the queue, its numbers and the lost-fault count. -/
theorem enterResetting_notices (s : State) (cause : RestartCause) :
    (s.enterResetting cause).notices.queue = (emptied s cause).notices.queue ∧
      (s.enterResetting cause).notices.next = (emptied s cause).notices.next ∧
      (s.enterResetting cause).notices.lostFaults = (emptied s cause).notices.lostFaults := by
  rw [enterResetting_eq, resetLearned_notices]
  exact ⟨State.resetSlots_notices_queue _, State.resetSlots_notices_next _, State.resetSlots_notices_lostFaults _⟩

/-- Settles O23, block by block. -/
theorem resettingEntryResetsBlocks : Obligations.ResettingEntryResetsBlocks := by
  intro s cause hord u
  obtain ⟨hseg, hrst, heng, hsched⟩ := enterResetting_control s cause
  obtain ⟨hqueue, hnext, hlostFaults⟩ := enterResetting_notices s cause
  refine ⟨hseg, hrst, heng, hsched, rfl, fun n => enterResetting_node s cause n, enterResetting_pwq_queue s cause,
    State.enterResetting_pwq_nextNumber s cause, enterResetting_postedLost s cause, fun hnone => ?_,
    fun i sl hk hs hw hb => enterResetting_barrier cause hk hs ⟨hb, hw⟩, fun hq => ?_, fun hq hfull => ?_,
    fun h hq hroom => ?_, enterResetting_order cause hord, State.enterResetting_params s cause,
    State.enterResetting_link s cause, State.enterResetting_segAttn s cause, fun i hs => enterResetting_free cause hs,
    fun i sl hs => ⟨enterResetting_orphaned cause hs, enterResetting_complete cause hs, fun hr => ?_⟩⟩
  · exact enterResetting_lossCount cause fun i sl hs hw => hnone i sl hs hw.2 hw.1
  · rw [hqueue, hlostFaults, emptied_notices_of_none cause hq]
    exact ⟨rfl, rfl⟩
  · obtain ⟨h, hq⟩ := Option.ne_none_iff_exists'.mp hq
    rw [hqueue, hnext, hlostFaults, emptied_notices_of_some cause hq, enterFault_of_full _ hfull]
    exact ⟨rfl, rfl, rfl⟩
  · have hent : s.pwq.entries.length = h.behind.length + 1 := by unfold Pwq.entries; rw [hq]; rfl
    rw [hqueue, hnext, hlostFaults, emptied_notices_of_some cause hq, enterFault_of_room _ hroom, hent]
    exact ⟨rfl, rfl, rfl⟩
  · obtain ⟨hready, k, hk⟩ := enterResetting_running cause hs hr
    exact ⟨_, hk, rfl, rfl, rfl, rfl, rfl, rfl, rfl, completed_dataStamp _ _ _ _, rfl, hready, rfl⟩

end Sys2Proof.PostedWrites
end

section
/-!
What a decision of the scheduler grants, and the command it puts on the segment (R9, R32 to R36, R51, R80, R127, R129, R132).
-/

namespace Sys2Proof.PostedWrites

open Sys2Proof.Machine Sys2Proof.Safety Sys2Proof.Laws

/-! ### The cut of a packet (R9) -/

theorem packetSize_pos (z : PacketSize) : 0 < z.bytes := by cases z <;> decide

theorem entrySize_pos (s : State) (e : Entry) : 0 < s.entrySize e := by
  unfold State.entrySize
  split
  · exact packetSize_pos _
  · decide

/-- A packet cut from what remains of the data, at an address inside the register space. -/
theorem cutAt_of_cutLength {cmd : Command} {size start remaining : Nat} (hs : 0 < size) (hr : 1 ≤ remaining)
    (ha : start + remaining ≤ 65536) (hreg : cmd.regAddr = BitVec.ofNat 16 start)
    (hlen : cmd.length = cutLength size start remaining) : CutAt cmd size start remaining := by
  obtain ⟨h₁, h₂, h₃, h₄⟩ := cutLength_spec size start remaining hs hr
  unfold CutAt
  rw [hreg, hlen, BitVec.toNat_ofNat]
  exact ⟨Nat.mod_eq_of_lt (by omega), h₁, h₂, h₃, h₄⟩

/-- The WR of the head is cut from the bytes not yet delivered (R9). -/
theorem headCommand_cutAt (s : State) {q : HeadedQueue} (hd : q.head.delivered < q.head.data.length)
    (ha : q.head.addr.toNat + q.head.data.length ≤ 65536) :
    CutAt (s.headCommand q) (s.entrySize q.head) (q.head.addr.toNat + q.head.delivered)
      (q.head.data.length - q.head.delivered) :=
  cutAt_of_cutLength (entrySize_pos s q.head) (by omega) (by omega) rfl rfl

/-- The bytes from `a` on for `n`, between those before and those after. -/
theorem split_at_cut {α : Type} (l : List α) (a n : Nat) : l = l.take a ++ (l.drop a).take n ++ l.drop (a + n) := by
  rw [List.append_assoc, ← List.drop_drop, List.take_append_drop, List.take_append_drop]

/-! ### What a grant is -/

/-- The engine starts a granted transaction: its record, and on the pair at once unless the turnaround runs (R85, R89). -/
theorem startTransaction_started {v : State} {r : Requester} {c : Command} {x : Transaction}
    (h : (v.startTransaction r c).engine.txn = some x) :
    x.requester = r ∧ x.cmd = c ∧ x.received = [] ∧ x.windowDeadline = none ∧
      (v.engine.turnaround = none → x.phase = .sending ∧ x.driven = some c.packet ∧
        (v.startTransaction r c).counters.transactionsSent = v.counters.transactionsSent + 1) ∧
      (v.engine.turnaround ≠ none → x.phase = .turnaround ∧ x.driven = none ∧
        (v.startTransaction r c).counters.transactionsSent = v.counters.transactionsSent) := by
  unfold State.startTransaction at h ⊢
  simp only [Option.some.injEq] at h
  subst h
  refine ⟨rfl, rfl, rfl, rfl, fun hn => ?_, fun hn => ?_⟩
  · simp [hn]
  · have : v.engine.turnaround.isSome = true := Option.isSome_iff_ne_none.mpr hn
    simp [this]

/-- What a grant out of u takes, d being the DRT's candidate: the state v in which the engine starts the transaction, its
requester and its command (R80). -/
inductive Granted (u : State) (d : Option SlotId) (v : State) : Requester → Command → Prop where
  | head (q : HeadedQueue) (hq : u.pwq.queue = some q) (hr : q.headState = .ready)
      (hv : v.pwq = { u.pwq with queue := some { q with headState := .inFlight } }) : Granted u d v .p (u.headCommand q)
  | slot (i : SlotId) (sl : Slot) (hd : d = some i) (hs : u.slot i = some sl)
      (hv : v.drt = { slots := u.drt.slots.set i (some { sl with state := .active })
                      order := u.drt.order.filter (· != i) }) : Granted u d v (.d i) (u.slotCommand sl)
  | fetch (n : NodeId) (hc : u.candidateC = some (.fetch n)) (hv : v.attn.pointer = some n) :
      Granted u d v .c (u.fetchCommand n)
  | survey (hc : u.candidateC = some .survey) (hv : v.attn = u.attn) : Granted u d v .c surveyCommand

theorem candidateP_iff (u : State) : u.candidateP = true ↔ ∃ q, u.pwq.queue = some q ∧ q.headState = .ready := by
  unfold State.candidateP
  cases u.pwq.queue with
  | none => simp
  | some q => simp

/-- A transaction that a decision has started is a grant (R78, R80). -/
theorem grantNext_granted {u : State} {d : Option SlotId} {x : Transaction} (ht : u.engine.txn = none)
    (hx : (u.grantNext d).engine.txn = some x) :
    ∃ v r c, u.grantNext d = v.startTransaction r c ∧ v.engine = u.engine ∧ v.counters = u.counters ∧
      Granted u d v r c := by
  have idle : ∀ k : Scheduler, ({ u with sched := k } : State).engine.txn ≠ some x := by
    intro k h
    have h' : u.engine.txn = some x := h
    rw [ht] at h'; cases h'
  unfold State.grantNext at hx ⊢
  split at hx
  · rw [ht] at hx; cases hx
  · next g hg =>
    generalize u.sched.afterGrant g d.isSome u.candidateC.isSome = k at hx ⊢
    cases g with
    | p =>
      obtain ⟨q, hq, hr⟩ := (candidateP_iff u).mp (chooseGrant_eq_p hg)
      simp only [State.grant, hq] at hx ⊢
      exact ⟨_, _, _, rfl, rfl, rfl, .head q hq hr rfl⟩
    | d =>
      cases hd : d with
      | none => rw [hd] at hx; exact absurd hx (idle k)
      | some i =>
        rw [hd] at hx
        simp only [State.grant] at hx ⊢
        cases hs : u.slot i with
        | none =>
          rw [show State.slot { u with sched := k } i = none from hs] at hx
          exact absurd hx (idle k)
        | some sl =>
          rw [show State.slot { u with sched := k } i = some sl from hs]
          exact ⟨_, _, _, rfl, rfl, rfl, .slot i sl rfl hs rfl⟩
    | c =>
      cases hc : u.candidateC with
      | none => rw [hc] at hx; exact absurd hx (idle k)
      | some o =>
        cases o with
        | fetch n => exact ⟨{ u with sched := k, attn := { u.attn with pointer := some n } }, _, _, rfl, rfl, rfl,
            .fetch n hc rfl⟩
        | survey => exact ⟨{ u with sched := k }, _, _, rfl, rfl, rfl, .survey hc rfl⟩

/-! ### The DRT's candidate (R32, R75) -/

theorem reqAbsent_eq (s : State) (sl : Slot) : s.reqAbsent sl.req = nodeGone s sl := by
  unfold State.reqAbsent nodeGone DelayedReq.guardedNode?
  cases sl.req <;> rfl

theorem offerAbsent_eq (s : State) (i : SlotId) : s.offerAbsent i = (s.slot i).any (nodeGone s) := by
  unfold State.offerAbsent
  cases s.slot i with
  | none => rfl
  | some sl => exact reqAbsent_eq s sl

/-- While the segment is RUNNING and the engine idle, the DRT looks at the slots of R32 and R75. -/
theorem offerList_eq {s : State} (hr : s.seg.state = .running) (ht : s.engine.txn = none) :
    s.offerList = slotsLookedAt s := by
  have active : ∀ i, s.idleActive i = (s.slot i).any fun sl => sl.state == .active := by
    intro i
    unfold State.idleActive State.inFlight
    rw [ht]
    cases s.slot i <;> simp
  have waiting : ∀ i, s.eligible i = (s.slot i).any fun sl =>
      sl.state == .waiting && sl.postingStamp.isNone && sl.gap.isNone && sl.req != .barrier := by
    intro i
    unfold State.eligible
    rw [hr]
    cases s.slot i <;> simp
  unfold State.offerList slotsLookedAt
  rw [funext active, funext waiting]; rfl

theorem removeAbsentMembers_offerList (s : State) : s.removeAbsentMembers.offerList = s.offerList := rfl

/-- The completion of a slot leaves every request, so whom an ABSENT node stops. -/
theorem completeSlot_offerAbsent (s : State) (a : SlotId) (r : ResultStatus) (i : SlotId) :
    (s.completeSlot a r).offerAbsent i = s.offerAbsent i := by
  by_cases hia : i = a
  · subst hia
    unfold State.completeSlot
    cases hs : s.slot i with
    | none => rfl
    | some sl =>
      simp only
      unfold State.offerAbsent
      rw [completeWith_slot_self, hs]; rfl
  · unfold State.offerAbsent
    rw [completeSlot_slot_ne s a i r hia]
    cases s.slot i with
    | none => rfl
    | some sl =>
      simp only
      unfold State.reqAbsent
      cases sl.req.guardedNode? with
      | none => rfl
      | some n =>
        simp only
        unfold State.absent
        rw [node_congr (State.completeSlot_nodes s a r)]

/-- The candidate is the first slot that no ABSENT node stops. -/
theorem offerSlot_snd : ∀ (l : List SlotId) (s : State),
    (State.offerSlot l s).2 = l.find? fun i => !(s.offerAbsent i)
  | [], _ => rfl
  | a :: rest, s => by
    unfold State.offerSlot
    rw [List.find?_cons]
    cases ha : s.offerAbsent a with
    | true =>
      simp only [if_true, Bool.not_true]
      rw [offerSlot_snd rest]
      simp only [completeSlot_offerAbsent]
    | false => simp

theorem offerSlot_order : ∀ (l : List SlotId) (s : State), ∀ j ∈ (State.offerSlot l s).1.drt.order, j ∈ s.drt.order
  | [], _, _, h => h
  | a :: rest, s, j, h => by
    unfold State.offerSlot at h
    split at h
    · have hj := offerSlot_order rest _ j h
      unfold State.completeSlot at hj
      split at hj
      · exact List.mem_of_mem_filter hj
      · exact hj
    · exact h

theorem offerSlot_transactionsSent : ∀ (l : List SlotId) (s : State),
    (State.offerSlot l s).1.counters.transactionsSent = s.counters.transactionsSent
  | [], _ => rfl
  | a :: rest, s => by
    unfold State.offerSlot
    split
    · rw [offerSlot_transactionsSent rest]
      unfold State.completeSlot
      split <;> rfl
    · rfl

/-- A slot that has completed keeps its record, also when the search meets it again. -/
theorem offerSlot_completed {i : SlotId} {sl : Slot} {stamp : NoticeStamp} {discardTime : Nat} :
    ∀ (l : List SlotId) (s : State), s.notices.newest = stamp → s.params.discardTime = discardTime →
      s.slot i = some (sl.completed .nodeAbsent stamp discardTime) →
      (State.offerSlot l s).1.slot i = some (sl.completed .nodeAbsent stamp discardTime)
  | [], _, _, _, h => h
  | a :: rest, s, hn, hp, h => by
    unfold State.offerSlot
    split
    · refine offerSlot_completed rest _ ?_ ?_ ?_
      · rw [← hn]; unfold NoticeBlock.newest; rw [State.completeSlot_notices_queue]
      · rw [State.completeSlot_params, hp]
      · by_cases hia : i = a
        · subst hia
          unfold State.completeSlot
          rw [h]; simp only
          rw [completeWith_slot_self, hn, hp]; rfl
        · rw [completeSlot_slot_ne s a i _ hia, h]
    · exact h

/-- A slot passed over completes NODE_ABSENT and leaves the list (R32). -/
theorem offerSlot_passed {i : SlotId} {sl : Slot} : ∀ (l : List SlotId) (s : State), s.slot i = some sl →
    i ∈ l.takeWhile s.offerAbsent → (State.offerSlot l s).1.slot i =
      some (sl.completed .nodeAbsent s.notices.newest s.params.discardTime) ∧ i ∉ (State.offerSlot l s).1.drt.order
  | [], _, _, h => by cases h
  | a :: rest, s, hs, h => by
    rw [List.takeWhile_cons] at h
    cases ha : s.offerAbsent a with
    | false => rw [ha] at h; cases h
    | true =>
      rw [ha] at h
      unfold State.offerSlot
      rw [if_pos ha]
      have hnewest : (s.completeSlot a .nodeAbsent).notices.newest = s.notices.newest := by
        unfold NoticeBlock.newest; rw [State.completeSlot_notices_queue]
      have hparams : (s.completeSlot a .nodeAbsent).params = s.params := State.completeSlot_params s a _
      by_cases hia : i = a
      · subst hia
        refine ⟨offerSlot_completed rest _ hnewest (by rw [hparams]) ?_, fun hj => ?_⟩
        · unfold State.completeSlot; rw [hs]; exact completeWith_slot_self s i sl _
        · have hjo := offerSlot_order rest _ i hj
          unfold State.completeSlot at hjo
          rw [hs] at hjo
          simp at hjo
      · have hrest : i ∈ rest.takeWhile s.offerAbsent := by simpa [hia] using h
        have := offerSlot_passed rest (s.completeSlot a .nodeAbsent)
          (by rw [completeSlot_slot_ne s a i _ hia, hs])
          (by rwa [funext (completeSlot_offerAbsent s a .nodeAbsent)])
        rwa [hnewest, hparams] at this

end Sys2Proof.PostedWrites
end

section
/-!
The Attention Unit's candidate by the search of R127, and the command of every grant.
-/

namespace Sys2Proof.PostedWrites

open Sys2Proof.Machine Sys2Proof.Safety Sys2Proof.Laws

/-! ### The rotation (R127) -/

theorem mem_rotation (p : Option NodeId) (n : NodeId) : n ∈ Machine.rotation p := by
  cases p with
  | none => exact List.mem_finRange n
  | some p =>
    unfold Machine.rotation
    rw [List.mem_append, or_comm, ← List.mem_append, List.take_append_drop]
    exact List.mem_finRange n

theorem allNodes_drop_ge {k : Nat} {n : NodeId} (h : n ∈ allNodes.drop k) : k ≤ n.val := by
  obtain ⟨j, hj, rfl⟩ := List.mem_iff_getElem.mp h
  simp [allNodes]

theorem allNodes_take_lt {k : Nat} {n : NodeId} (h : n ∈ allNodes.take k) : n.val < k := by
  obtain ⟨j, hj, rfl⟩ := List.mem_iff_getElem.mp h
  simp [allNodes] at hj ⊢
  omega

/-- The rotation goes through the nodes in the order of their places in the search. -/
theorem rotation_pairwise (p : Option NodeId) : (Machine.rotation p).Pairwise fun a b => fetchRank p a < fetchRank p b := by
  have ascending : allNodes.Pairwise (· < ·) := List.pairwise_lt_finRange 30
  cases p with
  | none => exact ascending
  | some p =>
    unfold Machine.rotation
    rw [List.pairwise_append]
    refine ⟨?_, ?_, fun a ha b hb => ?_⟩
    · refine (ascending.sublist (List.drop_sublist _ _)).imp_of_mem fun {a b} ha _ hab => ?_
      have := allNodes_drop_ge ha
      have hab' : a.val < b.val := hab
      simp only [fetchRank]; omega
    · refine (ascending.sublist (List.take_sublist _ _)).imp_of_mem fun {a b} _ hb hab => ?_
      have := allNodes_take_lt hb
      have hab' : a.val < b.val := hab
      simp only [fetchRank]; omega
    · have := allNodes_drop_ge ha
      have := allNodes_take_lt hb
      simp only [fetchRank]; omega

/-- What a search along a list finds comes first of all it could have found. -/
theorem find?_first {α : Type} {R : α → α → Prop} {l : List α} {p : α → Bool} {a b : α} (hl : l.Pairwise R)
    (h : l.find? p = some a) (hb : b ∈ l) (hp : p b = true) : b = a ∨ R a b := by
  obtain ⟨-, before, after, rfl, hbefore⟩ := List.find?_eq_some_iff_append.mp h
  rw [List.pairwise_append, List.pairwise_cons] at hl
  obtain ⟨-, ⟨hafter, -⟩, -⟩ := hl
  rcases List.mem_append.mp hb with hb | hb
  · have := hbefore b hb
    simp [hp] at this
  · rcases List.mem_cons.mp hb with rfl | hb
    · exact .inl rfl
    · exact .inr (hafter b hb)

/-! ### Candidate C (R76, R126) -/

/-- What the Attention Unit reads when the ABSENT members have left: u is s but for the members, the slots and what their
completion counts (R126). -/
structure MembersPresent (s u : State) : Prop where
  nodes : u.nodes = s.nodes
  members : u.attn.members = s.attn.members.filter fun m => !s.absent m.node
  pointer : u.attn.pointer = s.attn.pointer
  holdoff : u.attn.holdoff = s.attn.holdoff
  segAttn : u.segAttn = s.segAttn

theorem has_iff {s u : State} (h : MembersPresent s u) (n : NodeId) :
    (u.attn.has n && (u.node n).fetchEligible.isNone) = true ↔ FetchReady s n := by
  unfold Attention.has FetchReady
  rw [Bool.and_eq_true, h.members, List.any_eq_true, node_congr h.nodes, Option.isNone_iff_eq_none]
  constructor
  · rintro ⟨⟨m, hm, hmn⟩, he⟩
    obtain ⟨hms, ha⟩ := List.mem_filter.mp hm
    obtain rfl : m.node = n := by simpa using hmn
    exact ⟨⟨m, hms, rfl⟩, by simpa [State.absent] using ha, he⟩
  · rintro ⟨⟨m, hm, rfl⟩, ha, he⟩
    exact ⟨⟨m, List.mem_filter.mpr ⟨hm, by simpa [State.absent] using ha⟩, by simp⟩, he⟩

/-- The member a FETCH goes to (R127). -/
theorem nextFetch_some {s u : State} (h : MembersPresent s u) {n : NodeId} (hn : u.nextFetch = some n) :
    FetchReady s n ∧ ∀ m : NodeId, FetchReady s m → fetchRank s.attn.pointer n ≤ fetchRank s.attn.pointer m := by
  unfold State.nextFetch at hn
  rw [h.pointer] at hn
  have found := List.find?_some hn
  refine ⟨(has_iff h n).mp found, fun m hm => ?_⟩
  rcases find?_first (rotation_pairwise _) hn (mem_rotation _ m) ((has_iff h m).mpr hm) with rfl | hlt
  · exact le_rfl
  · exact hlt.le

theorem nextFetch_none {s u : State} (h : MembersPresent s u) (hn : u.nextFetch = none) (n : NodeId) : ¬FetchReady s n := by
  unfold State.nextFetch at hn
  intro hr
  exact List.find?_eq_none.mp hn n (mem_rotation _ n) ((has_iff h n).mpr hr)

theorem candidateC_fetch {s u : State} (h : MembersPresent s u) {n : NodeId} (hc : u.candidateC = some (.fetch n)) :
    FetchReady s n ∧ ∀ m : NodeId, FetchReady s m → fetchRank s.attn.pointer n ≤ fetchRank s.attn.pointer m := by
  apply nextFetch_some h
  unfold State.candidateC State.collectOffer at hc
  split at hc
  · split at hc
    · cases hc
    · split at hc
      · next hn => cases hc; exact hn
      · split at hc <;> cases hc
  · cases hc

theorem candidateC_survey {s u : State} (h : MembersPresent s u) (hc : u.candidateC = some .survey) :
    (∀ n : NodeId, ¬FetchReady s n) ∧ SurveyReady s := by
  unfold State.candidateC State.collectOffer at hc
  split at hc
  · split at hc
    · cases hc
    · split at hc
      · cases hc
      · next hn =>
        split at hc
        · next hs =>
          simp only [Bool.and_eq_true, List.isEmpty_iff, Option.isNone_iff_eq_none] at hs
          obtain ⟨⟨hempty, hattn⟩, hhold⟩ := hs
          refine ⟨nextFetch_none h hn, fun m hm => ?_, h.segAttn ▸ hattn, h.holdoff ▸ hhold⟩
          rw [h.members, List.filter_eq_nil_iff] at hempty
          simpa [State.absent] using hempty m hm
        · cases hc
  · cases hc

/-- The mark of a node that is not ABSENT is that of its member (R124). -/
theorem mark_eq {s u : State} (h : MembersPresent s u) {n : NodeId} (hn : (s.node n).presence ≠ .absent) :
    u.attn.mark n = s.attn.members.any fun m => m.node == n && m.repeatMark := by
  unfold Attention.mark
  rw [h.members, List.any_filter]
  congr 1
  funext m
  by_cases hm : m.node = n
  · have ha : s.absent m.node = false := by rw [hm]; simpa [State.absent] using hn
    simp [ha]
  · simp [hm]

/-! ### The commands -/

theorem headCommand_congr {s u : State} (h : u.nodes = s.nodes) (q : HeadedQueue) : u.headCommand q = s.headCommand q := by
  unfold State.headCommand State.entrySize
  simp only [node_congr h]

theorem slotCommand_congr {s u : State} (h : u.nodes = s.nodes) (sl : Slot) : u.slotCommand sl = s.slotCommand sl := by
  unfold State.slotCommand
  simp only [node_congr h]

/-- The state in which a decision chooses: the ABSENT members gone, the slots passed over completed (R32, R126). -/
def offered (s : State) : State × Option SlotId := State.offerSlot s.removeAbsentMembers.offerList s.removeAbsentMembers

theorem schedule_eq_grantNext {s : State} (hr : s.seg.state = .running) (ht : s.engine.txn = none) :
    s.schedule = (offered s).1.grantNext (offered s).2 := schedule_of_idle s hr ht

theorem offered_membersPresent (s : State) : MembersPresent s (offered s).1 := by
  unfold offered
  refine ⟨?_, ?_, ?_, ?_, ?_⟩
  · rw [State.offerSlot_nodes]; rfl
  · rw [State.offerSlot_attn]; rfl
  · rw [State.offerSlot_attn]; rfl
  · rw [State.offerSlot_attn]; rfl
  · rw [State.offerSlot_segAttn]; rfl

theorem offered_engine (s : State) : (offered s).1.engine = s.engine := by
  unfold offered; rw [State.offerSlot_engine]; rfl

theorem offered_pwq (s : State) : (offered s).1.pwq = s.pwq := by
  unfold offered; rw [State.offerSlot_pwq]; rfl

theorem offered_transactionsSent (s : State) :
    (offered s).1.counters.transactionsSent = s.counters.transactionsSent := by
  unfold offered; rw [offerSlot_transactionsSent]; rfl

theorem removeAbsentMembers_offerAbsent (s : State) (i : SlotId) :
    s.removeAbsentMembers.offerAbsent i = (s.slot i).any (nodeGone s) := offerAbsent_eq s i

/-- Candidate D is the first slot looked at that no ABSENT node stops, with its record as it was (R32, R75). -/
theorem offered_slot {s : State} (hr : s.seg.state = .running) (ht : s.engine.txn = none) {i : SlotId} {sl : Slot}
    (hd : (offered s).2 = some i) (hs : (offered s).1.slot i = some sl) : slotOffered s = some i ∧ s.slot i = some sl := by
  have hoffered : slotOffered s = some i := by
    unfold slotOffered
    rw [← offerList_eq hr ht, ← hd]
    unfold offered
    rw [offerSlot_snd, removeAbsentMembers_offerList]
    simp only [removeAbsentMembers_offerAbsent]
  refine ⟨hoffered, ?_⟩
  have hpresent : s.removeAbsentMembers.offerAbsent i = false := by
    unfold offered at hd
    rw [offerSlot_snd] at hd
    simpa using List.find?_some hd
  have hmem : i ∈ s.removeAbsentMembers.offerList := by
    unfold offered at hd
    exact offerSlot_mem _ _ i hd
  obtain ⟨r, hsome⟩ := Option.isSome_iff_exists.mp (offerList_isSome s.removeAbsentMembers i hmem)
  have hkept := offerSlot_keeps_slot i r s.removeAbsentMembers.offerList s.removeAbsentMembers hsome fun _ => hpresent
  have hrs : (offered s).1.slot i = some r := hkept
  rw [hs] at hrs
  cases hrs
  exact hsome

/-- What a decision that starts a transaction puts on its record, by the grantee (R32, R80, R85, R127, R129, R132). -/
theorem schedule_granted {s : State} {x : Transaction} (hr : s.seg.state = .running) (ht : s.engine.txn = none)
    (hx : s.schedule.engine.txn = some x) :
    ∃ v, s.schedule = v.startTransaction x.requester x.cmd ∧ v.engine = s.engine ∧
      v.counters.transactionsSent = s.counters.transactionsSent ∧
      Granted (offered s).1 (offered s).2 v x.requester x.cmd := by
  rw [schedule_eq_grantNext hr ht] at hx ⊢
  have hidle : (offered s).1.engine.txn = none := by rw [offered_engine, ht]
  obtain ⟨v, r, c, heq, heng, hcount, hgrant⟩ := grantNext_granted hidle hx
  rw [heq] at hx
  obtain ⟨rfl, rfl, -⟩ := startTransaction_started hx
  exact ⟨v, heq, heng.trans (offered_engine s), by rw [hcount, offered_transactionsSent], hgrant⟩

end Sys2Proof.PostedWrites
end

section
/-!
The command each grant puts on the segment, and its packet.
-/

namespace Sys2Proof.PostedWrites

open Sys2Proof.Machine Sys2Proof.Safety Sys2Proof.Laws

/-! ### The cut, part by part -/

theorem headCommand_data_length (s : State) {q : HeadedQueue}
    (h : (s.headCommand q).length ≤ q.head.data.length - q.head.delivered) :
    (s.headCommand q).data.length = (s.headCommand q).length := by
  show ((q.head.data.drop q.head.delivered).take (s.headCommand q).length).length = _
  rw [List.length_take, List.length_drop]; omega

theorem headCommand_data_split (s : State) (q : HeadedQueue) :
    q.head.data = q.head.data.take q.head.delivered ++ (s.headCommand q).data ++
      q.head.data.drop (q.head.delivered + (s.headCommand q).length) :=
  split_at_cut q.head.data q.head.delivered (s.headCommand q).length

/-- The repeat flag is that of the mark, never set for a broadcast (R10, R88). -/
theorem headCommand_repeatFlag (s : State) (q : HeadedQueue) :
    (s.headCommand q).repeatFlag = true ↔ q.repeatPending = true ∧ q.head.target ≠ none := by
  show (q.repeatPending && q.head.target.isSome) = true ↔ _
  rw [Bool.and_eq_true, Option.isSome_iff_ne_none]

theorem slotCommand_confirmWrite {s : State} {sl : Slot} {n : NodeId} {a : Half} {d : List Byte}
    (hreq : sl.req = .confirmWrite n a d) : s.slotCommand sl =
      { kind := .wr, target := .node n, regAddr := BitVec.ofNat 16 (a.toNat + sl.bytesDelivered)
        length := cutLength (s.node n).packetSize.bytes (a.toNat + sl.bytesDelivered) (d.length - sl.bytesDelivered)
        data := (d.drop sl.bytesDelivered).take
          (cutLength (s.node n).packetSize.bytes (a.toNat + sl.bytesDelivered) (d.length - sl.bytesDelivered))
        repeatFlag := sl.repeatPending, toggle := false } := by
  unfold State.slotCommand; rw [hreq]

/-- A slot's RD starts where its progress has come to (R34, R51). -/
def rdCommand (s : State) (sl : Slot) (n : NodeId) (start remaining : Nat) : Command :=
  { kind := .rd, target := .node n, regAddr := BitVec.ofNat 16 start
    length := cutLength (s.node n).packetSize.bytes start remaining
    data := [], repeatFlag := sl.repeatPending, toggle := false }

theorem slotCommand_readRegs {s : State} {sl : Slot} {n : NodeId} {a : Half} {c : Nat} (hreq : sl.req = .readRegs n a c) :
    s.slotCommand sl = rdCommand s sl n (a.toNat + sl.bytesReceived) (c - sl.bytesReceived) := by
  unfold State.slotCommand; rw [hreq]; rfl

theorem slotCommand_readBlock {s : State} {sl : Slot} {n : NodeId} {a : Half} {c : Nat}
    (hreq : sl.req = .readBlock n a c) :
    s.slotCommand sl = rdCommand s sl n (a.toNat + sl.fetchCursor) (c - sl.fetchCursor) := by
  unfold State.slotCommand; rw [hreq]; rfl

theorem slotCommand_probeNode {s : State} {sl : Slot} {n : NodeId} (hreq : sl.req = .probeNode n) : s.slotCommand sl =
    { kind := .probe, target := .node n, regAddr := 0, length := 0, data := [], repeatFlag := sl.repeatPending,
      toggle := false } := by
  unfold State.slotCommand; rw [hreq]

theorem rdCommand_cutAt (s : State) (sl : Slot) (n : NodeId) {start remaining : Nat} (hr : 1 ≤ remaining)
    (ha : start + remaining ≤ 65536) :
    CutAt (rdCommand s sl n start remaining) (s.node n).packetSize.bytes start remaining :=
  cutAt_of_cutLength (packetSize_pos _) hr ha rfl rfl

/-- The WR of the head (R9, R10, R87). -/
theorem headCommand_cut (s : State) (q : HeadedQueue) (hd : q.head.delivered < q.head.data.length)
    (ha : q.head.addr.toNat + q.head.data.length ≤ 65536) :
    let cmd := s.headCommand q
    let start := q.head.addr.toNat + q.head.delivered
    cmd.kind = .wr ∧ cmd.regAddr.toNat = start ∧ 1 ≤ cmd.length ∧
      q.head.delivered + cmd.length ≤ q.head.data.length ∧
      start / s.entrySize q.head = (start + cmd.length - 1) / s.entrySize q.head ∧
      (q.head.delivered + cmd.length = q.head.data.length ∨ (start + cmd.length) % s.entrySize q.head = 0) ∧
      cmd.data.length = cmd.length ∧
      q.head.data = q.head.data.take q.head.delivered ++ cmd.data ++ q.head.data.drop (q.head.delivered + cmd.length) ∧
      (cmd.repeatFlag = true ↔ q.repeatPending = true ∧ q.head.target ≠ none) := by
  obtain ⟨hreg, hpos, hle, hblock, hend⟩ := headCommand_cutAt s hd ha
  refine ⟨rfl, hreg, hpos, by omega, hblock, ?_, headCommand_data_length s hle, headCommand_data_split s q,
    headCommand_repeatFlag s q⟩
  rcases hend with hend | hend
  · left; omega
  · exact .inr hend

/-! ### The packet (R192) -/

/-- Address, fetch toggle and repeat flag stand in bits of their own. -/
theorem addressBits_eq (address : Fin 32) (toggle flag : Bool) :
    BitVec.ofNat 8 address.val ||| (if toggle then 0x20 else 0) ||| (if flag then 0x40 else 0) =
      BitVec.ofNat 8 (address.val + (if toggle then 32 else 0) + (if flag then 64 else 0)) := by
  revert address toggle flag; decide

theorem addressByte_eq (c : Command) : c.addressByte =
    BitVec.ofNat 8 ((match c.target with
      | .broadcast => 0
      | .node n => n.val + 1
      | .survey => 31) + (if c.toggle then 32 else 0) + (if c.repeatFlag then 64 else 0)) := by
  unfold Command.addressByte
  cases c.target with
  | broadcast => exact addressBits_eq 0 c.toggle c.repeatFlag
  | survey => exact addressBits_eq 31 c.toggle c.repeatFlag
  | node n => exact addressBits_eq ⟨n.val + 1, by omega⟩ c.toggle c.repeatFlag

theorem kindCode_command (k : CommandKind) : k.code =
    (match k with
      | .wr => 0x01
      | .rd => 0x02
      | .fetch => 0x03
      | .survey => 0x04
      | .probe => 0x05) := by cases k <;> rfl

/-! ### The grants -/

theorem grantNext_order (u : State) (d : Option SlotId) (i : SlotId) (h : i ∉ u.drt.order) :
    i ∉ (u.grantNext d).drt.order := by
  unfold State.grantNext
  split
  · exact h
  · unfold State.grant
    split
    · split <;> exact h
    · split
      · split
        · exact fun hm => h (List.mem_of_mem_filter hm)
        · exact h
      · exact h
    · split <;> exact h

/-- A slot passed over is COMPLETE with NODE_ABSENT after the decision, and off the list (R32). -/
theorem schedule_passed {s : State} {i : SlotId} {sl : Slot} (hr : s.seg.state = .running) (ht : s.engine.txn = none)
    (hs : s.slot i = some sl) (hi : i ∈ (slotsLookedAt s).takeWhile fun j => (s.slot j).any (nodeGone s)) :
    s.schedule.slot i = some (sl.completed .nodeAbsent s.notices.newest s.params.discardTime) ∧
      i ∉ s.schedule.drt.order := by
  rw [← offerList_eq hr ht, ← removeAbsentMembers_offerList,
    ← funext (removeAbsentMembers_offerAbsent s)] at hi
  obtain ⟨hslot, horder⟩ := offerSlot_passed s.removeAbsentMembers.offerList s.removeAbsentMembers hs hi
  have hgone : s.removeAbsentMembers.offerAbsent i = true := List.mem_takeWhile_imp hi
  have hother : (offered s).2 ≠ some i := by
    intro hd
    unfold offered at hd
    rw [offerSlot_snd] at hd
    have := List.find?_some hd
    simp [hgone] at this
  rw [schedule_eq_grantNext hr ht]
  exact ⟨grantNext_keeps_slot _ _ i _ hslot fun h => absurd h hother, grantNext_order _ _ i horder⟩

end Sys2Proof.PostedWrites
end

section
/-!
The transaction record a decision of the scheduler starts, grantee by grantee, and the cut and layout of its packet (R9,
R32 to R36, R51, R80, R85, R126, R127, R129, R132, R192).
-/

namespace Sys2Proof.PostedWrites

open Sys2Proof.Machine Sys2Proof.Safety Sys2Proof.Laws

/-! ### The grant to each requester -/

section Grants

variable {s : State} {x : Transaction} (hr : s.seg.state = .running) (ht : s.engine.txn = none)
  (hx : s.schedule.engine.txn = some x)

include hr ht hx

/-- A new record: nothing received, no window; the packet is on the pair unless the turnaround runs (R85, R89). -/
theorem schedule_record : x.received = [] ∧ x.windowDeadline = none ∧
    (s.engine.turnaround = none → x.phase = .sending ∧ x.driven = some x.cmd.packet ∧
      s.schedule.counters.transactionsSent = s.counters.transactionsSent + 1) ∧
    (s.engine.turnaround ≠ none → x.phase = .turnaround ∧ x.driven = none ∧
      s.schedule.counters.transactionsSent = s.counters.transactionsSent) := by
  obtain ⟨v, heq, heng, hcount, -⟩ := schedule_granted hr ht hx
  rw [heq] at hx ⊢
  obtain ⟨-, -, hreceived, hwindow, hidle, hwaits⟩ := startTransaction_started hx
  rw [heng, hcount] at hidle hwaits
  exact ⟨hreceived, hwindow, hidle, hwaits⟩

/-- The grant to P sends the head's WR and makes the head IN_FLIGHT (R9, R80). -/
theorem schedule_granted_p (hp : x.requester = .p) : ∃ q : HeadedQueue, s.pwq.queue = some q ∧ q.headState = .ready ∧
    x.cmd = s.headCommand q ∧ s.schedule.pwq = { s.pwq with queue := some { q with headState := .inFlight } } := by
  obtain ⟨v, heq, -, -, hgrant⟩ := schedule_granted hr ht hx
  rw [heq, State.startTransaction_pwq]
  generalize x.cmd = c at hgrant
  rw [hp] at hgrant
  cases hgrant with
  | head q hq hready hv =>
    rw [offered_pwq] at hq hv
    exact ⟨q, hq, hready, headCommand_congr (offered_membersPresent s).nodes q, hv⟩

/-- The grant to D sends the slot's command and takes the slot, now ACTIVE, off the list (R32, R80). -/
theorem schedule_granted_d (i : SlotId) (hd : x.requester = .d i) : slotOffered s = some i ∧ i ∉ s.schedule.drt.order ∧
    ∃ sl : Slot, s.slot i = some sl ∧ x.cmd = s.slotCommand sl ∧
      s.schedule.slot i = some { sl with state := .active } := by
  obtain ⟨v, heq, -, -, hgrant⟩ := schedule_granted hr ht hx
  unfold State.slot
  rw [heq, State.startTransaction_drt]
  generalize x.cmd = c at hgrant
  rw [hd] at hgrant
  cases hgrant with
  | slot _ sl hoffer hslot hv =>
    obtain ⟨hoffered, hs⟩ := offered_slot hr ht hoffer hslot
    rw [hv]
    exact ⟨hoffered, by simp, sl, hs, slotCommand_congr (offered_membersPresent s).nodes sl,
      slot_set_self (offered s).1 i (some { sl with state := .active }) _⟩

/-- The grant to C sends a FETCH to the first member of the rotation, or else a SURVEY (R126, R127, R129, R132). -/
theorem schedule_granted_c (hc : x.requester = .c) :
    (∃ n : NodeId, FetchReady s n ∧
      (∀ m : NodeId, FetchReady s m → fetchRank s.attn.pointer n ≤ fetchRank s.attn.pointer m) ∧
      x.cmd = { kind := .fetch, target := .node n, regAddr := 0, length := 0, data := [],
                repeatFlag := s.attn.members.any fun m => m.node == n && m.repeatMark,
                toggle := (s.node n).fetchToggle } ∧ s.schedule.attn.pointer = some n) ∨
    (∀ n : NodeId, ¬FetchReady s n) ∧ SurveyReady s ∧ x.cmd = surveyCommand ∧
      s.schedule.attn.pointer = s.attn.pointer := by
  have hpresent := offered_membersPresent s
  obtain ⟨v, heq, -, -, hgrant⟩ := schedule_granted hr ht hx
  rw [heq, State.startTransaction_attn]
  generalize x.cmd = c at hgrant
  rw [hc] at hgrant
  cases hgrant with
  | fetch n hoffer hpointer =>
    obtain ⟨hready, hfirst⟩ := candidateC_fetch hpresent hoffer
    refine .inl ⟨n, hready, hfirst, ?_, hpointer⟩
    unfold State.fetchCommand
    rw [mark_eq hpresent hready.2.1, node_congr hpresent.nodes]
  | survey hoffer hattn =>
    obtain ⟨hnone, hready⟩ := candidateC_survey hpresent hoffer
    exact .inr ⟨hnone, hready, rfl, by rw [hattn, hpresent.pointer]⟩

end Grants

/-! ### The command of a slot, and the packet of a command -/

/-- What a slot sends next, by the kind of its request (R33 to R36, R51). -/
theorem slotCommand_cut (s : State) (sl : Slot) (n : NodeId) :
    let cmd := s.slotCommand sl
    let size := (s.node n).packetSize.bytes
    (∀ (a : Half) (d : List Byte), sl.req = .confirmWrite n a d → sl.bytesDelivered < d.length →
      a.toNat + d.length ≤ 65536 →
      CutAt cmd size (a.toNat + sl.bytesDelivered) (d.length - sl.bytesDelivered) ∧
      cmd = { kind := .wr, target := .node n, regAddr := cmd.regAddr, length := cmd.length,
              data := (d.drop sl.bytesDelivered).take cmd.length, repeatFlag := sl.repeatPending, toggle := false }) ∧
    (∀ (a : Half) (c : Nat), sl.req = .readRegs n a c → sl.bytesReceived < c → a.toNat + c ≤ 65536 →
      CutAt cmd size (a.toNat + sl.bytesReceived) (c - sl.bytesReceived) ∧
      cmd = { kind := .rd, target := .node n, regAddr := cmd.regAddr, length := cmd.length, data := [],
              repeatFlag := sl.repeatPending, toggle := false }) ∧
    (∀ (a : Half) (c : Nat), sl.req = .readBlock n a c → sl.fetchCursor < c → a.toNat + c ≤ 65536 →
      CutAt cmd size (a.toNat + sl.fetchCursor) (c - sl.fetchCursor) ∧
      cmd = { kind := .rd, target := .node n, regAddr := cmd.regAddr, length := cmd.length, data := [],
              repeatFlag := sl.repeatPending, toggle := false }) ∧
    (sl.req = .probeNode n →
      cmd = { kind := .probe, target := .node n, regAddr := 0, length := 0, data := [], repeatFlag := sl.repeatPending,
              toggle := false }) := by
  refine ⟨fun a d hreq hd ha => ?_, fun a c hreq hc ha => ?_, fun a c hreq hc ha => ?_, slotCommand_probeNode⟩
  · rw [slotCommand_confirmWrite hreq]
    exact ⟨cutAt_of_cutLength (packetSize_pos _) (by omega) (by omega) rfl rfl, rfl⟩
  · rw [slotCommand_readRegs hreq]
    exact ⟨rdCommand_cutAt s sl n (by omega) (by omega), rfl⟩
  · rw [slotCommand_readBlock hreq]
    exact ⟨rdCommand_cutAt s sl n (by omega) (by omega), rfl⟩

/-- Settles O49: the commands by their cuts, the grant requester by requester, and the packet byte by byte. -/
theorem headPacketCut : Obligations.HeadPacketCut := by
  unfold Obligations.HeadPacketCut
  refine ⟨fun s q hd ha => ?_, slotCommand_cut, fun s x hr ht hx => ?_, fun s i sl hr ht hs hi => ?_, fun c => ?_⟩
  · obtain ⟨hkind, hreg, hpos, hle, hblock, hend, hlen, hdata, hrepeat⟩ := headCommand_cut s q hd ha
    exact ⟨hkind, hreg, hpos, hle, hblock, hend, hlen, hdata, hrepeat, rfl⟩
  · obtain ⟨hreceived, hwindow, hidle, hwaits⟩ := schedule_record hr ht hx
    exact ⟨hreceived, hwindow, hidle, hwaits, schedule_granted_p hr ht hx, schedule_granted_d hr ht hx,
      schedule_granted_c hr ht hx⟩
  · obtain ⟨hslot, horder⟩ := schedule_passed hr ht hs hi
    exact ⟨_, hslot, rfl, rfl, rfl, rfl, rfl, rfl, completed_dataStamp _ _ _ _, horder⟩
  · unfold Command.packet Command.covered
    rw [addressByte_eq, kindCode_command]
    rfl

end Sys2Proof.PostedWrites
end

section
/-!
The updates of the Delayed Request Table, of the numbers in the Posted Write Queue and of the Notice Block that all
operations of the part are made of. A property that they keep is kept by every step.
-/

namespace Sys2Proof.DelayedRequests

open Sys2Proof.Machine Sys2Proof.Safety Sys2Proof.Laws Sys2Proof.PostedWrites

/-- The numbers of the queued entries, head first. -/
def numbers (q : Pwq) : List Half := q.entries.map (·.number)

/-- The record r is sl with other progress: same key, same NOTIFY, same posting stamp. -/
structure SameRequest (sl r : Slot) : Prop where
  req : r.req = sl.req
  notify : r.notify = sl.notify
  stamp : r.postingStamp = sl.postingStamp

/-- Q is kept by every update of a slot, of the queue's numbers and of the notices, and reads nothing else of the state. -/
structure UpdatesKeep (Q : State → Prop) : Prop where
  other : ∀ s t : State, t.drt = s.drt → numbers t.pwq = numbers s.pwq → t.notices.ready = s.notices.ready →
    (NoticesOk s.notices → NoticesOk t.notices) → Q s → Q t
  hintTaken : ∀ (s : State) (i : SlotId), Q s → Q { s with notices := s.notices.removeHint i }
  fill : ∀ (s : State) (i : SlotId) (req : DelayedReq) (notify : Bool), s.slot i = none → NoLiveMatch s req →
    (req = .barrier → s.pwq.newest ≠ none) → Q s → Q (s.fillSlot i req notify)
  fillBarrier : ∀ (s : State) (i : SlotId) (notify : Bool), s.slot i = none → NoLiveMatch s .barrier →
    s.pwq.newest = none → Q s → Q ((s.fillSlot i .barrier notify).completeBarrier i)
  rewrite : ∀ (s : State) (i : SlotId) (sl r : Slot), s.slot i = some sl → SameRequest sl r → r.state = sl.state → Q s →
    Q (s.setSlot i (some r))
  complete : ∀ (s : State) (i : SlotId) (sl r : Slot) (st : ResultStatus), s.slot i = some sl → sl.state.live = true →
    SameRequest sl r → Q s → Q (s.completeWith i r st)
  retry : ∀ (s : State) (i : SlotId) (sl r : Slot), s.slot i = some sl → sl.state = .active → SameRequest sl r →
    r.state = .waiting → Q s → Q { s with drt := { slots := s.drt.slots.set i (some r), order := s.drt.order ++ [i] } }
  activate : ∀ (s : State) (i : SlotId) (sl : Slot), s.slot i = some sl →
    sl.state = .active ∨ sl.state = .waiting ∧ sl.req ≠ .barrier → Q s →
    Q { s with drt := { slots := s.drt.slots.set i (some { sl with state := .active })
                        order := s.drt.order.filter (· != i) } }
  orphan : ∀ (s : State) (i : SlotId) (sl : Slot), s.slot i = some sl → sl.state = .active → Q s →
    Q (s.setSlot i (some sl.orphan))
  free : ∀ (s : State) (i : SlotId), Q s → Q (s.freeSlot i)
  forget : ∀ (s : State) (gone : List Half), Q s → Q { s with drt := s.drt.mapSlots (Slot.forgetNotices gone) }
  append : ∀ (s : State) (target : Option NodeId) (addr : Half) (data : List Byte) (seq : Byte), Q s →
    Q { s with pwq := s.pwq.append target addr data seq }
  popHead : ∀ (s : State) (q : HeadedQueue), numbers s.pwq = q.head.number :: q.behind.map (·.number) → Q s →
    Q (s.popHead q)
  enterResetting : ∀ (s : State) (cause : RestartCause), Q s → Q (s.enterResetting cause)
  partReset : ∀ (cause : ResetCause) (lspd : BitVec 2) (level : Bool) (l : List Instr),
    Q (State.afterPartReset cause lspd level l)

theorem numbers_of_queue {p : Pwq} {q : HeadedQueue} (h : p.queue = some q) :
    numbers p = q.head.number :: q.behind.map (·.number) := by
  unfold numbers Pwq.entries; rw [h]; rfl

theorem completeSlot_eq {s : State} {i : SlotId} {sl : Slot} (r : ResultStatus) (h : s.slot i = some sl) :
    s.completeSlot i r = s.completeWith i sl r := by
  unfold State.completeSlot; rw [h]

/-! ### What the taking of a request finds (R25, R26, R37) -/

theorem noLiveMatch_of_liveMatch {s : State} {req : DelayedReq} (h : s.liveMatch req = none) : NoLiveMatch s req := by
  intro j sl hs hl hreq
  have hj := List.find?_eq_none.mp h j (List.mem_finRange j)
  unfold State.matchesKey at hj
  rw [hs] at hj
  simp [hl, hreq] at hj

theorem free_of_lowestFree {s : State} {i : SlotId} (h : s.lowestFree = some i) : s.slot i = none := by
  simpa using List.find?_some h

theorem fillSlot_slot_self (s : State) (i : SlotId) (req : DelayedReq) (notify : Bool) :
    (s.fillSlot i req notify).slot i = some (Slot.filled req notify s.pwq.newest) := slot_set_self s i _ _

theorem fillSlot_slot_ne (s : State) {i j : SlotId} (req : DelayedReq) (notify : Bool) (h : j ≠ i) :
    (s.fillSlot i req notify).slot j = s.slot j := slot_set_ne s i j _ _ h

/-- A BARRIER just filled is posting-clear when the queue is empty. -/
theorem fillSlot_clearBarrier (s : State) (i : SlotId) (notify : Bool) :
    (s.fillSlot i .barrier notify).clearBarrier i = true ↔ s.pwq.newest = none := by
  unfold State.clearBarrier
  rw [fillSlot_slot_self]
  simp [Slot.filled]

namespace UpdatesKeep

variable {Q : State → Prop} (k : UpdatesKeep Q)

include k

/-- An update of other blocks. -/
theorem aside {s t : State} (h : Q s) (hd : t.drt = s.drt) (hp : t.pwq.entries = s.pwq.entries)
    (hn : t.notices = s.notices) : Q t :=
  k.other s t hd (by unfold numbers; rw [hp]) (by rw [hn]) (by rw [hn]; exact id) h

/-- A fault is handed over (R145, R146). -/
theorem fault (s : State) (d : FaultDetail) (h : Q s) : Q { s with notices := s.notices.enterFault d } :=
  k.other s _ rfl rfl (NoticeBlock.enterFault_ready _ _) (noticesOk_enterFault d) h

/-! ### The arbiter and the framer -/

theorem arbitrate (s : State) (h : Q s) : Q s.arbitrate := by
  rcases s.arbitrate_cases with e | e | e | ⟨r, -, e⟩ | ⟨n, ho, e⟩ | ⟨i, rest, sl, -, -, e⟩ <;> rw [e]
  · exact h
  · exact k.aside h rfl rfl rfl
  · exact k.aside h rfl rfl rfl
  · exact k.aside h rfl rfl rfl
  · exact k.other s _ rfl rfl rfl (noticesOk_takeNotice _ _ n ho) h
  · exact k.aside (k.hintTaken s i h) rfl rfl rfl

theorem badFrame (s : State) (h : Q s) : Q s.badFrame.arbitrate :=
  k.arbitrate _ (k.aside h rfl rfl rfl)

theorem goodFrame (s : State) (f : Frame) (h : Q s) : Q (s.goodFrame f) := by
  unfold State.goodFrame
  split
  · exact k.aside h rfl rfl rfl
  · exact k.aside (k.fault s (.linkOverrun f.seq) h) rfl rfl rfl

theorem takeChar (s : State) (b : Byte) (h : Q s) : Q (s.takeChar b) := by
  unfold State.takeChar
  split
  · exact k.aside h rfl rfl rfl
  · exact k.badFrame s h
  · exact k.arbitrate _ (k.goodFrame s _ h)
  · exact k.badFrame s h

theorem frameGap (s : State) (h : Q s) : Q s.frameGap := by
  unfold State.frameGap
  split
  · exact h
  · exact k.badFrame s h

/-! ### The scheduler -/

/-- The search completes slots that are live, and a completed slot is live. -/
theorem offerSlot : ∀ (l : List SlotId) (s : State),
    (∀ i ∈ l, ∃ sl, s.slot i = some sl ∧ sl.state.live = true) → Q s → Q (State.offerSlot l s).1
  | [], _, _, h => h
  | i :: rest, s, hl, h => by
    unfold State.offerSlot
    split
    · obtain ⟨sl, hs, hlive⟩ := hl i (by simp)
      rw [completeSlot_eq _ hs]
      refine offerSlot rest _ (fun j hj => ?_) (k.complete s i sl sl _ hs hlive ⟨rfl, rfl, rfl⟩ h)
      by_cases hji : j = i
      · subst hji; exact ⟨_, completeWith_slot_self s j sl _, rfl⟩
      · rw [completeWith_slot_ne s i j sl _ hji]; exact hl j (by simp [hj])
    · exact h

omit k in
/-- The slots looked at for candidate D: ACTIVE, or WAITING and no BARRIER (R32, R75). -/
theorem offerList_slot {s : State} {i : SlotId} (h : i ∈ s.offerList) :
    ∃ sl, s.slot i = some sl ∧ (sl.state = .active ∨ sl.state = .waiting ∧ sl.req ≠ .barrier) := by
  obtain ⟨sl, hs⟩ := Option.isSome_iff_exists.mp (offerList_isSome s i h)
  refine ⟨sl, hs, ?_⟩
  unfold State.offerList at h
  rcases List.mem_append.mp h with h | h
  · have hi := (List.mem_filter.mp h).2
    unfold State.idleActive at hi
    rw [hs] at hi
    simp only [Bool.and_eq_true, beq_iff_eq] at hi
    exact .inl hi.1
  · have hi := (List.mem_filter.mp h).2
    unfold State.eligible at hi
    rw [hs] at hi
    simp only [Bool.and_eq_true, beq_iff_eq, bne_iff_ne] at hi
    exact .inr ⟨hi.1.1.1.1, hi.2⟩

omit k in
theorem live_of_offered {sl : Slot} (h : sl.state = .active ∨ sl.state = .waiting ∧ sl.req ≠ .barrier) :
    sl.state.live = true := by
  rcases h with h | ⟨h, -⟩ <;> rw [h] <;> rfl

theorem grant (s : State) (g : Choice) (d : Option SlotId) (c : Option CollectOffer)
    (hd : ∀ i sl, d = some i → s.slot i = some sl → sl.state = .active ∨ sl.state = .waiting ∧ sl.req ≠ .barrier)
    (h : Q s) : Q (s.grant g d c) := by
  unfold State.grant
  cases g with
  | p =>
    simp only
    split
    · next q hq => exact k.aside h (by simp) (State.grantHead_pwq_entries s q hq) (by simp)
    · exact h
  | d =>
    cases d with
    | none => exact h
    | some i =>
      simp only
      split
      · next sl hs => exact k.aside (k.activate s i sl hs (hd i sl rfl hs) h) rfl rfl rfl
      · exact h
  | c =>
    simp only
    split
    · exact k.aside h rfl rfl rfl
    · exact k.aside h rfl rfl rfl
    · exact h

theorem schedule (s : State) (h : Q s) : Q s.schedule := by
  by_cases hidle : s.seg.state = .running ∧ s.engine.txn = none
  · obtain ⟨hr, ht⟩ := hidle
    have hoffered : Q (offered s).1 := by
      refine k.offerSlot _ _ (fun i hi => ?_) (k.aside h rfl rfl rfl)
      obtain ⟨sl, hs, hst⟩ := offerList_slot hi
      exact ⟨sl, hs, live_of_offered hst⟩
    rw [schedule_eq_grantNext hr ht]
    unfold State.grantNext
    split
    · exact hoffered
    · refine k.grant _ _ _ _ (fun i sl hd hs => ?_) (k.aside hoffered rfl rfl rfl)
      obtain ⟨sl', hs', hst⟩ := offerList_slot (offerSlot_mem _ s.removeAbsentMembers i hd)
      have hsl : s.slot i = some sl := (offered_slot hr ht hd hs).2
      cases hsl.symm.trans hs'
      exact hst
  · unfold State.schedule
    rw [if_neg hidle]
    exact h

/-! ### The head of the queue -/

theorem discardHead (s : State) (q : HeadedQueue) (r : LossReason)
    (hq : numbers s.pwq = q.head.number :: q.behind.map (·.number)) (h : Q s) : Q (s.discardHead q r) := by
  unfold State.discardHead
  exact k.popHead _ q hq (k.aside (k.fault s (q.head.lostDetail r) h) rfl rfl rfl)

theorem dropAbsentHeads : ∀ (fuel : Nat) (s : State), Q s → Q (State.dropAbsentHeads fuel s)
  | 0, _, h => h
  | fuel + 1, s, h => by
    unfold State.dropAbsentHeads
    split
    · exact h
    · next q hq =>
      split
      · exact dropAbsentHeads fuel _ (k.discardHead s q _ (numbers_of_queue hq) h)
      · exact h

theorem checkHead (s : State) (h : Q s) : Q s.checkHead := k.dropAbsentHeads _ s h

/-- The head is noted anew: its number stays. -/
theorem rehead {s t : State} {q q' : HeadedQueue} (h : Q s) (hq : s.pwq.queue = some q)
    (hq' : t.pwq.queue = some q') (hn : q'.head.number = q.head.number) (hb : q'.behind = q.behind)
    (hd : t.drt = s.drt) (hnot : t.notices = s.notices) : Q t :=
  k.other s t hd (by rw [numbers_of_queue hq, numbers_of_queue hq', hn, hb]) (by rw [hnot]) (by rw [hnot]; exact id) h

theorem headDelivered (s : State) (q : HeadedQueue)
    (hq : numbers s.pwq = q.head.number :: q.behind.map (·.number)) (h : Q s) : Q (s.headDelivered q) := by
  unfold State.headDelivered
  exact k.checkHead _ (k.popHead _ q hq (k.aside h rfl rfl rfl))

theorem headAck (s : State) (q : HeadedQueue) (len : Nat) (hq : s.pwq.queue = some q) (h : Q s) :
    Q (s.headAck q len) := by
  unfold State.headAck
  simp only
  split
  · exact k.headDelivered s _ (numbers_of_queue (q := q) hq) h
  · exact k.checkHead _ (k.rehead h hq rfl rfl rfl rfl rfl)

theorem headRetry (s : State) (q : HeadedQueue) (mark : Bool) (hq : s.pwq.queue = some q) (h : Q s) :
    Q (s.headRetry q mark) := by
  unfold State.headRetry
  simp only
  split
  · exact k.checkHead _ (k.discardHead s _ _ (numbers_of_queue (q := q) hq) h)
  · exact k.rehead h hq rfl rfl rfl rfl rfl

theorem headOutcome (s : State) (cmd : Command) (o : SegOutcome) (h : Q s) : Q (s.headOutcome cmd o) := by
  unfold State.headOutcome
  split
  · exact h
  · next q hq =>
    have discarded : ∀ r : LossReason, Q (s.discardHead q r).checkHead := fun r =>
      k.checkHead _ (k.discardHead s q r (numbers_of_queue hq) h)
    cases o with
    | ack => exact k.headAck s q _ hq h
    | refuse r => exact discarded _
    | noResponse =>
      simp only
      split
      · exact discarded _
      · exact k.headRetry s q _ hq h
    | wait => exact k.headRetry s q _ hq h
    | data b => exact k.headRetry s q _ hq h
    | report m c d => exact k.headRetry s q _ hq h
    | empty => exact k.headRetry s q _ hq h
    | ident b => exact k.headRetry s q _ hq h
    | garbled => exact k.headRetry s q _ hq h

/-! ### The slot of a transaction -/

section Active

variable {s : State} {i : SlotId} {sl : Slot} (hs : s.slot i = some sl) (ha : sl.state = .active) (h : Q s)

include hs ha h

theorem completeActive {r : Slot} (st : ResultStatus) (hr : SameRequest sl r) : Q (s.completeWith i r st) :=
  k.complete s i sl r st hs (by rw [ha]; rfl) hr h

theorem slotAdvance {r : Slot} (done : Bool) (hr : SameRequest sl r) (hst : r.state = sl.state) :
    Q (s.slotAdvance i r done) := by
  unfold State.slotAdvance
  split
  · exact k.completeActive hs ha h _ hr
  · exact k.rewrite s i sl r hs hr hst h

theorem slotRetry (mark : Bool) : Q (s.slotRetry i sl mark) := by
  unfold State.slotRetry
  simp only
  split
  · exact k.completeActive hs ha h _ ⟨rfl, rfl, rfl⟩
  · exact k.retry s i sl _ hs ha ⟨rfl, rfl, rfl⟩ rfl h

theorem slotSilence : Q (s.slotSilence i sl) := by
  unfold State.slotSilence
  split
  · exact k.completeActive hs ha h _ ⟨rfl, rfl, rfl⟩
  · exact k.slotRetry hs ha h _

theorem activeOutcome (cmd : Command) (o : SegOutcome) : Q (s.activeOutcome i sl cmd o) := by
  have retried := fun mark => k.slotRetry hs ha h mark
  unfold State.activeOutcome
  cases o with
  | wait => exact retried _
  | noResponse =>
    simp only
    split
    · exact k.completeActive hs ha h _ ⟨rfl, rfl, rfl⟩
    · exact k.slotSilence hs ha h
  | refuse r =>
    simp only
    split
    · exact retried _
    · exact k.completeActive hs ha h _ ⟨rfl, rfl, rfl⟩
  | ack =>
    simp only
    split
    · exact k.slotAdvance hs ha h _ ⟨rfl, rfl, rfl⟩ rfl
    · exact retried _
  | data bytes =>
    simp only
    split
    · exact k.slotAdvance hs ha h _ ⟨rfl, rfl, rfl⟩ rfl
    · exact k.slotAdvance hs ha h _ ⟨rfl, rfl, rfl⟩ rfl
    · exact retried _
  | ident bytes =>
    simp only
    split
    · exact k.completeActive hs ha h _ ⟨rfl, rfl, rfl⟩
    · exact retried _
  | garbled => exact retried _
  | report m c d => exact retried _
  | empty => exact retried _

end Active

theorem slotOutcome (s : State) (i : SlotId) (cmd : Command) (o : SegOutcome) (h : Q s) :
    Q (s.slotOutcome i cmd o) := by
  unfold State.slotOutcome
  split
  · exact h
  · next sl hs =>
    split
    · exact k.free s i h
    · next ha => exact k.activeOutcome hs ha h cmd o
    · exact h
    · exact h

/-! ### Delivery -/

theorem fetchOutcome (s : State) (n : NodeId) (o : SegOutcome) (h : Q s) : Q (s.fetchOutcome n o) := by
  unfold State.fetchOutcome
  cases o with
  | report more code data =>
    simp only
    split
    · next hroom => exact k.other s _ rfl rfl rfl (fun hn => noticesOk_enterReport n code data hn hroom) h
    · exact k.aside h rfl rfl rfl
  | empty => exact k.aside h rfl rfl rfl
  | refuse r => exact k.aside h rfl rfl rfl
  | noResponse => exact k.aside h rfl rfl rfl
  | wait => exact k.aside h rfl rfl rfl
  | garbled => exact k.aside h rfl rfl rfl
  | ack => exact k.aside h rfl rfl rfl
  | data b => exact k.aside h rfl rfl rfl
  | ident b => exact k.aside h rfl rfl rfl

theorem granteeOutcome (s : State) (x : Transaction) (o : SegOutcome) (h : Q s) : Q (s.granteeOutcome x o) := by
  unfold State.granteeOutcome
  split
  · exact k.headOutcome s _ o h
  · exact k.slotOutcome s _ _ o h
  · split
    · exact k.fetchOutcome s _ o h
    · exact h
    · exact h

theorem release (s : State) (h : Q s) : Q s.release := k.aside h rfl rfl rfl

theorem deliver (s : State) (x : Transaction) (o : SegOutcome) (h : Q s) : Q (s.deliver x o) := by
  have node : Q (s.nodeOutcome x.cmd o) := k.aside h (by simp) (by simp) (by simp)
  unfold State.deliver
  exact k.schedule _ (k.release _ (k.granteeOutcome _ x o (k.checkHead _ node)))

theorem windowEnds (s : State) (x : Transaction) (h : Q s) : Q (s.windowEnds x) := by
  unfold State.windowEnds
  refine k.schedule _ (k.release _ ?_)
  split
  · next q hq => exact k.headAck s q _ hq h
  · exact h

/-! ### Deadlines -/

theorem headGapEnds (s : State) (h : Q s) : Q s.headGapEnds := by
  unfold State.headGapEnds
  split
  · exact h
  · next q hq =>
    split
    · exact k.schedule _ (k.checkHead _ (k.rehead h hq rfl rfl rfl rfl rfl))
    · exact h
    · exact h

theorem slotGapEnds (s : State) (i : SlotId) (h : Q s) : Q (s.slotGapEnds i) := by
  unfold State.slotGapEnds
  split
  · exact h
  · next sl hs =>
    split
    · exact k.schedule _ (k.rewrite s i sl _ hs ⟨rfl, rfl, rfl⟩ rfl h)
    · exact h

theorem discardSlot (s : State) (i : SlotId) (sl : Slot) (h : Q s) : Q (s.discardSlot i sl) :=
  k.aside (k.fault _ (sl.discardDetail i) (k.free s i h)) rfl rfl rfl

/-! ### Requests -/

theorem runningAnswer {s : State} {i : SlotId} {sl : Slot} (hs : s.slot i = some sl) (h : Q s) :
    Q (s.runningAnswer i sl).1 := by
  unfold State.runningAnswer
  split
  · split
    · exact k.rewrite s i sl _ hs ⟨rfl, rfl, rfl⟩ rfl h
    · exact h
  · exact h

theorem repeatAnswer (s : State) (i : SlotId) (h : Q s) : Q (s.repeatAnswer i).1 := by
  unfold State.repeatAnswer
  split
  · exact h
  · next sl hs =>
    split
    · unfold State.completeAnswer
      split
      · exact k.free s i h
      · exact h
    · exact k.runningAnswer hs h
    · exact k.runningAnswer hs h
    · exact h

theorem fillAnswer (s : State) (i : SlotId) (req : DelayedReq) (notify : Bool) (hi : s.slot i = none)
    (hn : NoLiveMatch s req) (h : Q s) : Q (s.fillAnswer i req notify).1 := by
  unfold State.fillAnswer
  simp only
  split
  · next hb =>
    subst hb
    split
    · next hc => exact k.repeatAnswer _ i (k.fillBarrier s i notify hi hn ((fillSlot_clearBarrier s i notify).mp hc) h)
    · next hc => exact k.fill s i _ notify hi hn (fun _ hnew => hc ((fillSlot_clearBarrier s i notify).mpr hnew)) h
  · next hb => exact k.schedule _ (k.fill s i req notify hi hn (fun hreq => absurd hreq hb) h)

theorem takeDelayed (s : State) (req : DelayedReq) (notify : Bool) (h : Q s) : Q (s.takeDelayed req notify).1 := by
  unfold State.takeDelayed
  split
  · exact k.repeatAnswer s _ h
  · next hmatch =>
    split
    · exact h
    · split
      · exact h
      · next i hfree => exact k.fillAnswer s i req notify (free_of_lowestFree hfree) (noLiveMatch_of_liveMatch hmatch) h

theorem cancel (s : State) (i : SlotId) (h : Q s) : Q (s.cancel i).1 := by
  unfold State.cancel
  split
  · exact h
  · next sl hs =>
    split
    · exact h
    · exact k.free s i h
    · exact k.free s i h
    · next ha =>
      split
      · exact k.orphan s i sl hs ha h
      · exact k.free s i h

theorem removeNotices (s : State) (r : Nat) (h : Q s) : Q (s.removeNotices r) := by
  have removed : Q { s with
      notices := s.notices.removeFirst r s.params.resendTime
      drt := s.drt.mapSlots (Slot.forgetNotices ((s.notices.queue.take r).map (·.number))) } :=
    k.forget { s with notices := s.notices.removeFirst r s.params.resendTime } _
      (k.other s _ rfl rfl rfl (noticesOk_removeFirst r _) h)
  unfold State.removeNotices
  simp only
  split
  · exact k.schedule _ removed
  · exact removed

theorem acknowledge (s : State) (n : Half) (h : Q s) : Q (s.acknowledge n).1 := by
  unfold State.acknowledge
  simp only
  split
  · split
    · exact k.removeNotices s _ h
    · exact h
  · split <;> exact h

theorem acceptWrite (s : State) (target : Option NodeId) (addr : Half) (data : List Byte) (seq : Byte) (h : Q s) :
    Q (s.acceptWrite target addr data seq).1 := by
  unfold State.acceptWrite
  simp only
  split
  · exact k.schedule _ (k.append s target addr data seq h)
  · exact k.append s target addr data seq h

theorem postWrite (s : State) (seq : Byte) (a : NodeId × Half × List Byte) (h : Q s) : Q (s.postWrite seq a).1 := by
  unfold State.postWrite State.handOver
  split
  · split
    · exact h
    · exact k.takeDelayed s _ _ h
  · split
    · exact h
    · split
      · exact k.acceptWrite s _ _ _ seq h
      · exact h

theorem broadcastWrite (s : State) (seq : Byte) (a : Half × List Byte) (h : Q s) : Q (s.broadcastWrite seq a).1 := by
  unfold State.broadcastWrite
  split
  · exact k.acceptWrite s _ _ _ seq h
  · exact h

/-! ### The segment -/

theorem segmentReset (s : State) (h : Q s) : Q s.segmentReset := by
  unfold State.segmentReset
  split
  · exact k.enterResetting s _ h
  · exact k.enterResetting s _ h
  · exact k.aside h rfl rfl rfl

theorem enterRunning (s : State) (h : Q s) : Q s.enterRunning :=
  k.schedule _ (k.aside (k.fault s (.segmentRestarted s.seg.cause s.seg.bitRate) h) rfl rfl rfl)

theorem holdExpires (s : State) (h : Q s) : Q s.holdExpires := by
  have released : Q s.releaseSegment := k.aside h rfl rfl rfl
  unfold State.holdExpires
  split
  · exact k.enterRunning _ released
  · exact released

theorem trainEnds (s : State) (starts : List TrainStart) (h : Q s) : Q (s.trainEnds starts) := by
  unfold State.trainEnds
  exact k.schedule _ (k.release _ (k.aside h (by simp) (by simp) (by simp)))

/-- What the updates keep, every operation and so every step keeps. -/
theorem kept : Kept Q where
  pendingFree _ _ h := k.aside h rfl rfl rfl
  segAttnFree _ _ h := k.aside h rfl rfl rfl
  arbitrate := k.arbitrate
  replayAnswer _ _ h := k.aside h rfl rfl rfl
  giveAnswer _ _ _ _ _ h := k.aside h rfl rfl rfl
  takeChar := k.takeChar
  frameGap := k.frameGap
  linkReset s h := k.other s _ rfl rfl rfl noticesOk_rewind h
  partReset := k.partReset
  frameSent _ _ _ _ _ h := k.aside h rfl rfl rfl
  postWrite := k.postWrite
  broadcastWrite := k.broadcastWrite
  takeDelayed := k.takeDelayed
  cancel := k.cancel
  acknowledge := k.acknowledge
  setNode _ _ _ h := k.aside h rfl rfl rfl
  storeParam _ _ _ _ h := k.aside h rfl rfl rfl
  segmentReset := k.segmentReset
  requestReset _ h := k.aside h rfl rfl rfl
  schedule := k.schedule
  holdExpires s _ h := k.holdExpires s h
  enterRunning s _ h := k.enterRunning s h
  engine _ _ _ h := k.aside h rfl rfl rfl
  counters _ _ h := k.aside h rfl rfl rfl
  deliver s x o _ h := k.deliver s x o h
  windowEnds s x _ h := k.windowEnds s x h
  trainEnds s starts _ h := k.trainEnds s starts h
  headGapEnds := k.headGapEnds
  slotGapEnds := k.slotGapEnds
  discardSlot s i sl _ _ h := k.discardSlot s i sl h
  holdoffNone _ h := k.aside h rfl rfl rfl
  rewind s h := k.other s _ rfl rfl rfl noticesOk_rewind h

end UpdatesKeep

end Sys2Proof.DelayedRequests
end

section
/-!
The Notice Queue's form is kept by every step: only hints come and go while slots complete and are freed.
-/

namespace Sys2Proof.DelayedRequests

open Sys2Proof.Machine Sys2Proof.Safety Sys2Proof.Laws Sys2Proof.PostedWrites

theorem completeWith_noticesOk (s : State) (i : SlotId) (sl : Slot) (r : ResultStatus) (h : NoticesOk s.notices) :
    NoticesOk (s.completeWith i sl r).notices := by
  rw [State.completeWith_notices]
  split
  · exact noticesOk_addHint i h
  · exact h

theorem completeBarrier_noticesOk (s : State) (i : SlotId) (h : NoticesOk s.notices) :
    NoticesOk (s.completeBarrier i).notices := by
  unfold State.completeBarrier
  split
  · next sl _ => exact completeWith_noticesOk s i { sl with lossCount := s.pwq.lossCount } .ok h
  · exact h

theorem completeBarriers_noticesOk (s : State) (h : NoticesOk s.notices) : NoticesOk s.completeBarriers.notices := by
  unfold State.completeBarriers
  refine foldl_invariant (fun t : State => NoticesOk t.notices) _ (fun t i ht => ?_) _ _ h
  split
  · exact completeBarrier_noticesOk t i ht
  · exact ht

theorem resetSlot_noticesOk (s : State) (i : SlotId) (h : NoticesOk s.notices) : NoticesOk (s.resetSlot i).notices := by
  unfold State.resetSlot
  split
  · exact h
  · next sl _ =>
    cases sl.state with
    | waiting =>
      simp only
      split
      · exact completeBarrier_noticesOk s i h
      · exact completeWith_noticesOk s i sl _ h
    | active => exact completeWith_noticesOk s i sl _ h
    | complete => exact h
    | orphaned => exact noticesOk_removeHint i h

theorem emptied_noticesOk (s : State) (cause : RestartCause) (h : NoticesOk s.notices) :
    NoticesOk (emptied s cause).notices := by
  cases hq : s.pwq.queue with
  | none => rw [emptied_notices_of_none cause hq]; exact h
  | some q => rw [emptied_notices_of_some cause hq]; exact noticesOk_enterFault _ h

theorem enterResetting_noticesOk (s : State) (cause : RestartCause) (h : NoticesOk s.notices) :
    NoticesOk (s.enterResetting cause).notices := by
  rw [enterResetting_eq, resetLearned_notices]
  exact foldl_invariant (fun t : State => NoticesOk t.notices) _ resetSlot_noticesOk _ _ (emptied_noticesOk s cause h)

theorem noticesOk_updatesKeep : UpdatesKeep fun s => NoticesOk s.notices where
  other _ _ _ _ _ hn h := hn h
  hintTaken _ i h := noticesOk_removeHint i h
  fill _ _ _ _ _ _ _ h := h
  fillBarrier s i notify _ _ _ h := completeBarrier_noticesOk (s.fillSlot i .barrier notify) i h
  rewrite _ _ _ _ _ _ _ h := h
  complete s i _ r st _ _ _ h := completeWith_noticesOk s i r st h
  retry _ _ _ _ _ _ _ _ h := h
  activate _ _ _ _ _ h := h
  orphan _ _ _ _ _ h := h
  free _ i h := noticesOk_removeHint i h
  forget _ _ h := h
  append _ _ _ _ _ h := h
  popHead s q _ h := completeBarriers_noticesOk (headRemoved s q) h
  enterResetting := enterResetting_noticesOk
  partReset _ _ _ _ := noticesOk_empty 0 0

/-- Settles O55, by the updates that all operations are made of. -/
theorem noticeQueueFormKept : Obligations.NoticeQueueFormKept :=
  fun s t hs ht => noticesOk_updatesKeep.kept.step s t hs ht

end Sys2Proof.DelayedRequests
end

section
/-!
The form of the Delayed Request Table is kept by every step. While the BARRIERs that an entry released complete one after
another, those still to come may wait without a stamp: the slots named `loose`.
-/

namespace Sys2Proof.DelayedRequests

open Sys2Proof.Machine Sys2Proof.Safety Sys2Proof.Laws Sys2Proof.PostedWrites

/-! ### One slot of the table is set -/

theorem slots_set (v : Vector (Option Slot) 8) (i j : SlotId) (r : Option Slot) :
    (v.set i r)[j] = if j = i then r else v[j] := by
  rw [Fin.getElem_fin, Fin.getElem_fin, Vector.getElem_set]
  simp [Fin.ext_iff, eq_comm]

/-- A property of every record, after one slot is set. -/
theorem forall_slots_set {v : Vector (Option Slot) 8} {i : SlotId} {r : Option Slot} {P : SlotId → Slot → Prop}
    (h : ∀ (j : SlotId) (sl : Slot), j ≠ i → v[j] = some sl → P j sl) (hr : ∀ sl, r = some sl → P i sl) :
    ∀ (j : SlotId) (sl : Slot), (v.set i r)[j] = some sl → P j sl := by
  intro j sl hj
  rw [slots_set] at hj
  split at hj
  · next hji => subst hji; exact hr sl hj
  · next hji => exact h j sl hji hj

/-! ### The delayed order list (R24) -/

theorem orderOk_filter {d : Drt} {i : SlotId} {r : Option Slot} (h : OrderOk d) (hr : isWaiting r = false) :
    OrderOk { slots := d.slots.set i r, order := d.order.filter (· != i) } := by
  obtain ⟨hnodup, hmem⟩ := h
  refine ⟨hnodup.filter _, fun j => ?_⟩
  rw [slots_set, List.mem_filter, hmem j]
  by_cases hji : j = i
  · simp [hji, hr]
  · simp [hji]

theorem orderOk_append {d : Drt} {i : SlotId} {r : Option Slot} (h : OrderOk d) (hi : isWaiting d.slots[i] = false)
    (hr : isWaiting r = true) : OrderOk { slots := d.slots.set i r, order := d.order ++ [i] } := by
  obtain ⟨hnodup, hmem⟩ := h
  have hni : i ∉ d.order := fun hm => by rw [(hmem i).mp hm] at hi; cases hi
  refine ⟨List.nodup_append.mpr ⟨hnodup, List.nodup_singleton i, ?_⟩, fun j => ?_⟩
  · rintro a ha b hb rfl
    exact hni (List.mem_singleton.mp hb ▸ ha)
  · rw [slots_set, List.mem_append, List.mem_singleton, hmem j]
    by_cases hji : j = i
    · simp [hji, hr]
    · simp [hji]

theorem orderOk_same {d : Drt} {i : SlotId} {r : Option Slot} (h : OrderOk d) (hr : isWaiting r = isWaiting d.slots[i]) :
    OrderOk { slots := d.slots.set i r, order := d.order } := by
  obtain ⟨hnodup, hmem⟩ := h
  refine ⟨hnodup, fun j => ?_⟩
  rw [slots_set, hmem j]
  by_cases hji : j = i
  · rw [if_pos hji, hr, hji]
  · rw [if_neg hji]

/-! ### Keys (R23) -/

theorem keysDistinct_set {d : Drt} {i : SlotId} {r : Option Slot} {o : List SlotId} (h : KeysDistinct d)
    (hr : ∀ a, r = some a → a.state.live = true → ∀ (j : SlotId) (b : Slot), j ≠ i → d.slots[j] = some b →
      b.state.live = true → b.req ≠ a.req) : KeysDistinct { slots := d.slots.set i r, order := o } := by
  intro j l a b ha hb la lb hab
  simp only [slots_set] at ha hb
  by_cases hj : j = i
  · by_cases hl : l = i
    · rw [hj, hl]
    · rw [if_pos hj] at ha
      rw [if_neg hl] at hb
      exact absurd hab.symm (hr a ha la l b hl hb lb)
  · by_cases hl : l = i
    · rw [if_neg hj] at ha
      rw [if_pos hl] at hb
      exact absurd hab (hr b hb lb j a hj ha la)
    · rw [if_neg hj] at ha
      rw [if_neg hl] at hb
      exact h j l a b ha hb la lb hab

/-- A record with the key of a live one replaces it. -/
theorem keysDistinct_replace {d : Drt} {i : SlotId} {sl r : Slot} {o : List SlotId} (h : KeysDistinct d)
    (hs : d.slots[i] = some sl) (hlive : r.state.live = true → sl.state.live = true) (hreq : r.req = sl.req) :
    KeysDistinct { slots := d.slots.set i (some r), order := o } := by
  refine keysDistinct_set h fun a ha la j b hj hb lb hab => ?_
  cases ha
  exact hj (h j i b sl hb hs lb (hlive la) (hab.trans hreq))

/-! ### Hints (R43) -/

theorem hintsOk_set {d : Drt} {i : SlotId} {r : Option Slot} {o ready ready' : List SlotId} (h : HintsOk d ready)
    (hne : ∀ j ∈ ready', j ≠ i → j ∈ ready)
    (hi : i ∈ ready' → ∃ a, r = some a ∧ a.state = .complete ∧ a.notify = true) :
    HintsOk { slots := d.slots.set i r, order := o } ready' := by
  intro j hj
  simp only [slots_set]
  by_cases hji : j = i
  · rw [if_pos hji]; exact hi (hji ▸ hj)
  · rw [if_neg hji]; exact h j (hne j hj hji)

theorem not_mem_ready {d : Drt} {i : SlotId} {sl : Slot} {ready : List SlotId} (h : HintsOk d ready)
    (hs : d.slots[i] = some sl) (hc : sl.state ≠ .complete) : i ∉ ready := by
  intro hi
  obtain ⟨a, ha, hac, -⟩ := h i hi
  rw [hs] at ha; cases ha
  exact hc hac

/-! ### The form -/

/-- The form of the table, but that WAITING BARRIERs in the loose slots may be posting-clear. -/
structure TableForm (loose : List SlotId) (s : State) : Prop where
  order : OrderOk s.drt
  keys : KeysDistinct s.drt
  barriers : ∀ (i : SlotId) (sl : Slot), s.slot i = some sl → sl.req = .barrier →
    sl.state = .complete ∨ sl.state = .waiting ∧ (i ∈ loose ∨ sl.postingStamp ≠ none)
  stamps : ∀ (i : SlotId) (sl : Slot), s.slot i = some sl → ∀ n : Half, sl.postingStamp = some n → n ∈ numbers s.pwq
  hints : HintsOk s.drt s.notices.ready

theorem tableForm_nil_iff (s : State) : TableForm [] s ↔ TableOk s := by
  constructor
  · rintro ⟨order, keys, barriers, stamps, hints⟩
    refine ⟨order, keys, fun i sl hs hb => ?_, fun i sl n hs hn => List.mem_map.mp (stamps i sl hs n hn), hints⟩
    simpa using barriers i sl hs hb
  · rintro ⟨order, keys, barriers, stamps, hints⟩
    refine ⟨order, keys, fun i sl hs hb => ?_, fun i sl hs n hn => List.mem_map.mpr (stamps i sl n hs hn), hints⟩
    simpa using barriers i sl hs hb

namespace TableForm

variable {loose : List SlotId} {s : State} {i : SlotId}

theorem loosen (h : TableForm loose s) (i : SlotId) : TableForm (i :: loose) s where
  order := h.order
  keys := h.keys
  barriers j sl hs hb := (h.barriers j sl hs hb).imp_right fun ⟨hw, hl⟩ => ⟨hw, hl.imp_left (List.mem_cons_of_mem i)⟩
  stamps := h.stamps
  hints := h.hints

/-- Slot i need not be loose unless a BARRIER waits in it without a stamp. -/
theorem tighten (h : TableForm (i :: loose) s) (hc : s.clearBarrier i = false) : TableForm loose s where
  order := h.order
  keys := h.keys
  barriers j sl hs hb := by
    refine (h.barriers j sl hs hb).imp_right fun ⟨hw, hl⟩ => ⟨hw, ?_⟩
    rcases hl with hl | hl
    · rcases List.mem_cons.mp hl with rfl | hl
      · refine .inr fun hn => ?_
        rw [(clearBarrier_iff s j).mpr ⟨sl, hs, ⟨hb, hw⟩, hn⟩] at hc
        cases hc
      · exact .inl hl
    · exact .inr hl
  stamps := h.stamps
  hints := h.hints

/-- Slot i is set: what its new record must meet. -/
theorem set (h : TableForm (i :: loose) s) {r : Option Slot} {o : List SlotId} {b : NoticeBlock} {c : Counters}
    (horder : OrderOk { slots := s.drt.slots.set i r, order := o })
    (hkeys : KeysDistinct { slots := s.drt.slots.set i r, order := o })
    (hbarrier : ∀ a, r = some a → a.req = .barrier →
      a.state = .complete ∨ a.state = .waiting ∧ (i ∈ loose ∨ a.postingStamp ≠ none))
    (hstamp : ∀ a, r = some a → ∀ n : Half, a.postingStamp = some n → n ∈ numbers s.pwq)
    (hhints : HintsOk { slots := s.drt.slots.set i r, order := o } b.ready) :
    TableForm loose { s with drt := { slots := s.drt.slots.set i r, order := o }, notices := b, counters := c } where
  order := horder
  keys := hkeys
  barriers := forall_slots_set (fun j sl hj hs hb => (h.barriers j sl hs hb).imp_right fun ⟨hw, hl⟩ =>
    ⟨hw, hl.imp_left fun hm => (List.mem_cons.mp hm).resolve_left hj⟩) hbarrier
  stamps := forall_slots_set (fun j sl _ hs => h.stamps j sl hs) hstamp
  hints := hhints

/-- Entries may join the queue, and hints leave the Ready List. -/
theorem mono {t : State} (h : TableForm loose s) (hd : t.drt = s.drt) (hn : ∀ n ∈ numbers s.pwq, n ∈ numbers t.pwq)
    (hr : ∀ j ∈ t.notices.ready, j ∈ s.notices.ready) : TableForm loose t where
  order := hd ▸ h.order
  keys := hd ▸ h.keys
  barriers j sl hs := h.barriers j sl (slot_congr hd j ▸ hs)
  stamps j sl hs n hsn := hn n (h.stamps j sl (slot_congr hd j ▸ hs) n hsn)
  hints j hj := by rw [hd]; exact h.hints j (hr j hj)

/-- Only the table, the queue's numbers and the Ready List are read. -/
theorem congr {t : State} (h : TableForm loose s) (hd : t.drt = s.drt) (hn : numbers t.pwq = numbers s.pwq)
    (hr : t.notices.ready = s.notices.ready) : TableForm loose t :=
  h.mono hd (fun _ => by rw [hn]; exact id) (fun _ => by rw [hr]; exact id)

/-- A live slot completes (R41, R43). -/
theorem complete (h : TableForm (i :: loose) s) {sl r : Slot} (st : ResultStatus) (hs : s.slot i = some sl)
    (hl : sl.state.live = true) (hr : SameRequest sl r) : TableForm loose (s.completeWith i r st) := by
  refine h.set (orderOk_filter h.order rfl) (keysDistinct_replace h.keys hs (fun _ => hl) hr.req) (fun a ha _ => ?_)
    (fun a ha n hn => ?_) (hintsOk_set h.hints (fun j hj hji => ?_) fun hi => ⟨_, rfl, rfl, ?_⟩)
  · cases ha; exact .inl rfl
  · cases ha; exact h.stamps i sl hs n (hr.stamp ▸ hn)
  · split at hj
    · simpa [NoticeBlock.addHint, hji] using (List.mem_filter.mp hj).2
    · exact hj
  · show r.notify = true
    split at hi
    · assumption
    · obtain ⟨a, ha, -, hnotify⟩ := h.hints i hi
      cases (show s.slot i = some a from ha).symm.trans hs
      rw [hr.notify, hnotify]

/-- A slot is freed (R21). -/
theorem free (h : TableForm (i :: loose) s) : TableForm loose (s.freeSlot i) := by
  refine h.set (orderOk_filter h.order rfl) (keysDistinct_set h.keys fun a ha => ?_) (fun a ha => ?_) (fun a ha => ?_)
    (hintsOk_set h.hints (fun j hj _ => List.mem_of_mem_filter hj) fun hi => ?_)
  · cases ha
  · cases ha
  · cases ha
  · simp [NoticeBlock.removeHint] at hi

theorem completeBarrier (h : TableForm (i :: loose) s) {sl : Slot} (hs : s.slot i = some sl) (hb : WaitingBarrier sl) :
    TableForm loose (s.completeBarrier i) := by
  have completed : TableForm loose (s.completeWith i { sl with lossCount := s.pwq.lossCount } .ok) :=
    h.complete .ok hs (by rw [hb.2]; rfl) ⟨rfl, rfl, rfl⟩
  unfold State.completeBarrier
  rw [hs]
  exact completed.congr rfl rfl rfl

/-- One BARRIER after another completes (R37). -/
theorem completeBarriers_fold : ∀ (l : List SlotId) (s : State), TableForm l s →
    TableForm [] (l.foldl (fun t i => if t.clearBarrier i then t.completeBarrier i else t) s)
  | [], _, h => h
  | i :: rest, s, h => by
    rw [List.foldl_cons]
    refine completeBarriers_fold rest _ ?_
    split
    · next hc =>
      obtain ⟨sl, hs, hb, -⟩ := (clearBarrier_iff s i).mp hc
      exact h.completeBarrier hs hb
    · next hc => exact h.tighten (Bool.eq_false_iff.mpr hc)

/-- What the entry into RESETTING does to one slot (R46). -/
theorem resetSlot (h : TableForm (i :: loose) s) : TableForm loose (s.resetSlot i) := by
  cases hs : s.slot i with
  | none =>
    rw [resetSlot_of_free hs]
    exact h.tighten (by unfold State.clearBarrier; rw [hs])
  | some sl =>
    by_cases hb : WaitingBarrier sl
    · rw [resetSlot_of_barrier hs hb]
      exact h.completeBarrier hs hb
    · have running : Running sl → TableForm loose (s.resetSlot i) := fun hr => by
        rw [resetSlot_of_running hs hr hb]
        exact h.complete _ hs (by rcases hr with hr | hr <;> rw [hr] <;> rfl) ⟨rfl, rfl, rfl⟩
      cases hst : sl.state with
      | waiting => exact running (.inl hst)
      | active => exact running (.inr hst)
      | orphaned => rw [resetSlot_of_orphaned hs hst]; exact h.free
      | complete =>
        rw [resetSlot_of_complete hs hst]
        refine h.tighten (Bool.eq_false_iff.mpr fun hc => ?_)
        obtain ⟨a, ha, haw, -⟩ := (clearBarrier_iff s i).mp hc
        cases hs.symm.trans ha
        exact hb haw

theorem resetSlots_fold : ∀ (l : List SlotId) (s : State), TableForm l s → TableForm [] (l.foldl State.resetSlot s)
  | [], _, h => h
  | _ :: rest, _, h => resetSlots_fold rest _ h.resetSlot

/-! ### A slot is filled, rewritten, started, sent back or orphaned -/

theorem fillSlot (h : TableForm (i :: loose) s) {req : DelayedReq} (notify : Bool) (hi : s.slot i = none)
    (hfresh : NoLiveMatch s req) (hb : req = .barrier → i ∈ loose ∨ s.pwq.newest ≠ none) :
    TableForm loose (s.fillSlot i req notify) := by
  have hfree : s.drt.slots[i] = none := hi
  refine h.set (orderOk_append h.order (by rw [hfree]; rfl) rfl) (keysDistinct_set h.keys fun a ha _ j b _ hj lb => ?_)
    (fun a ha hreq => ?_) (fun a ha n hn => ?_) (hintsOk_set h.hints (fun j hj _ => hj) fun hj => ?_)
  · cases ha; exact hfresh j b hj lb
  · cases ha; exact .inr ⟨rfl, hb hreq⟩
  · cases ha
    obtain ⟨e, he, rfl⟩ := Option.map_eq_some_iff.mp hn
    exact List.mem_map.mpr ⟨e, List.mem_of_getLast? he, rfl⟩
  · obtain ⟨a, ha, -⟩ := h.hints i hj
    rw [hfree] at ha; cases ha

theorem rewrite (h : TableForm [] s) {sl r : Slot} (hs : s.slot i = some sl) (hr : SameRequest sl r)
    (hst : r.state = sl.state) : TableForm [] (s.setSlot i (some r)) := by
  have hsi : s.drt.slots[i] = some sl := hs
  refine (h.loosen i).set (orderOk_same h.order ?_) (keysDistinct_replace h.keys hs (by rw [hst]; exact id) hr.req)
    (fun a ha hb => ?_) (fun a ha n hn => ?_) (hintsOk_set h.hints (fun j hj _ => hj) fun hj => ?_)
  · rw [hsi]; simp [isWaiting, hst]
  · cases ha; rw [hst, hr.stamp]; exact h.barriers i sl hs (hr.req ▸ hb)
  · cases ha; exact h.stamps i sl hs n (hr.stamp ▸ hn)
  · obtain ⟨a, ha, hc, hnotify⟩ := h.hints i hj
    cases hsi.symm.trans ha
    exact ⟨r, rfl, hst.trans hc, hr.notify.trans hnotify⟩

/-- A BARRIER is never ACTIVE (R37). -/
theorem not_barrier_of_active (h : TableForm [] s) {sl : Slot} (hs : s.slot i = some sl) (ha : sl.state = .active) :
    sl.req ≠ .barrier := by
  intro hb
  rcases h.barriers i sl hs hb with hc | ⟨hw, -⟩
  · rw [ha] at hc; cases hc
  · rw [ha] at hw; cases hw

theorem retry (h : TableForm [] s) {sl r : Slot} (hs : s.slot i = some sl) (ha : sl.state = .active)
    (hr : SameRequest sl r) (hst : r.state = .waiting) :
    TableForm [] { s with drt := { slots := s.drt.slots.set i (some r), order := s.drt.order ++ [i] } } := by
  have hsi : s.drt.slots[i] = some sl := hs
  refine (h.loosen i).set (orderOk_append h.order ?_ ?_)
    (keysDistinct_replace h.keys hs (fun _ => by rw [ha]; rfl) hr.req) (fun a hra hb => ?_) (fun a hra n hn => ?_)
    (hintsOk_set h.hints (fun j hj _ => hj) fun hj => ?_)
  · rw [hsi]; simp [isWaiting, ha]
  · simp [isWaiting, hst]
  · cases hra; exact absurd (hr.req ▸ hb) (h.not_barrier_of_active hs ha)
  · cases hra; exact h.stamps i sl hs n (hr.stamp ▸ hn)
  · exact absurd hj (not_mem_ready h.hints hs (by rw [ha]; decide))

theorem activate (h : TableForm [] s) {sl : Slot} (hs : s.slot i = some sl)
    (hst : sl.state = .active ∨ sl.state = .waiting ∧ sl.req ≠ .barrier) :
    TableForm [] { s with drt := { slots := s.drt.slots.set i (some { sl with state := .active })
                                   order := s.drt.order.filter (· != i) } } := by
  have hnb : sl.req ≠ .barrier := hst.elim (h.not_barrier_of_active hs) And.right
  have hnc : sl.state ≠ .complete := by rcases hst with hst | ⟨hst, -⟩ <;> rw [hst] <;> decide
  refine (h.loosen i).set (orderOk_filter h.order rfl)
    (keysDistinct_replace h.keys hs (fun _ => UpdatesKeep.live_of_offered hst) rfl) (fun a ha hb => ?_)
    (fun a ha n hn => ?_) (hintsOk_set h.hints (fun j hj _ => hj) fun hj => ?_)
  · cases ha; exact absurd hb hnb
  · cases ha; exact h.stamps i sl hs n hn
  · exact absurd hj (not_mem_ready h.hints hs hnc)

theorem orphan (h : TableForm [] s) {sl : Slot} (hs : s.slot i = some sl) (ha : sl.state = .active) :
    TableForm [] (s.setSlot i (some sl.orphan)) := by
  have hsi : s.drt.slots[i] = some sl := hs
  refine (h.loosen i).set (orderOk_same h.order ?_) (keysDistinct_replace h.keys hs (fun hl => by cases hl) rfl)
    (fun a hra hb => ?_) (fun a hra n hn => ?_) (hintsOk_set h.hints (fun j hj _ => hj) fun hj => ?_)
  · rw [hsi]; simp [isWaiting, ha, Slot.orphan]
  · cases hra
    have hreq : sl.req = .barrier := hb
    exact absurd hreq (h.not_barrier_of_active hs ha)
  · cases hra; exact h.stamps i sl hs n hn
  · exact absurd hj (not_mem_ready h.hints hs (by rw [ha]; decide))

/-! ### Every record is changed -/

/-- f changes nothing of a record that the order list, the keys and the hints read. -/
structure KeepsStanding (f : Slot → Slot) : Prop where
  req : ∀ sl, (f sl).req = sl.req
  state : ∀ sl, (f sl).state = sl.state
  notify : ∀ sl, (f sl).notify = sl.notify

theorem mapSlots {f : Slot → Slot} {p : Pwq} (h : TableForm [] s) (hf : KeepsStanding f)
    (hbarrier : ∀ sl, WaitingBarrier sl → sl.postingStamp ≠ none → loose = allSlots ∨ (f sl).postingStamp ≠ none)
    (hstamp : ∀ sl n, (f sl).postingStamp = some n → sl.postingStamp = some n ∧ (n ∈ numbers s.pwq → n ∈ numbers p)) :
    TableForm loose { s with pwq := p, drt := s.drt.mapSlots f } := by
  have slot : ∀ j, (s.drt.mapSlots f).slots[j] = (s.slot j).map f := fun j => slot_mapSlots s f s.pwq j
  obtain ⟨⟨hnodup, hmem⟩, keys, barriers, stamps, hints⟩ := h
  refine ⟨⟨hnodup, fun j => ?_⟩, fun j l a b ha hb la lb hab => ?_, fun j a ha hreq => ?_, fun j a ha n hn => ?_,
    fun j hj => ?_⟩
  · show j ∈ s.drt.order ↔ _
    rw [hmem j, slot j]
    show isWaiting (s.slot j) = true ↔ _
    cases s.slot j with
    | none => rfl
    | some sl => simp [isWaiting, hf.state]
  · rw [slot] at ha hb
    obtain ⟨x, hx, rfl⟩ := Option.map_eq_some_iff.mp ha
    obtain ⟨y, hy, rfl⟩ := Option.map_eq_some_iff.mp hb
    rw [hf.state] at la lb
    rw [hf.req, hf.req] at hab
    exact keys j l x y hx hy la lb hab
  · obtain ⟨sl, hs, rfl⟩ := Option.map_eq_some_iff.mp ((slot j).symm.trans ha)
    rw [hf.req] at hreq
    rw [hf.state]
    refine (barriers j sl hs hreq).imp_right fun ⟨hw, hst⟩ => ⟨hw, ?_⟩
    exact (hbarrier sl ⟨hreq, hw⟩ (by simpa using hst)).imp_left fun hl => by rw [hl]; exact List.mem_finRange j
  · obtain ⟨sl, hs, rfl⟩ := Option.map_eq_some_iff.mp ((slot j).symm.trans ha)
    obtain ⟨hn', hin⟩ := hstamp sl n hn
    exact hin (stamps j sl hs n hn')
  · obtain ⟨sl, hs, hc, hnotify⟩ := hints j hj
    exact ⟨f sl, by rw [slot, show s.slot j = some sl from hs]; rfl, (hf.state sl).trans hc, (hf.notify sl).trans hnotify⟩

theorem forgetNotices (h : TableForm [] s) (gone : List Half) :
    TableForm [] { s with drt := s.drt.mapSlots (Slot.forgetNotices gone) } := by
  have keeps : ∀ sl : Slot, ∃ stamp, Slot.forgetNotices gone sl = { sl with dataStamp := stamp } := by
    intro sl
    unfold Slot.forgetNotices
    split
    · split
      · exact ⟨_, rfl⟩
      · exact ⟨_, rfl⟩
    · exact ⟨_, rfl⟩
  refine h.mapSlots (p := s.pwq) ⟨fun sl => ?_, fun sl => ?_, fun sl => ?_⟩ (fun sl _ hn => ?_) (fun sl n hn => ?_)
  all_goals obtain ⟨stamp, hf⟩ := keeps sl
  · rw [hf]
  · rw [hf]
  · rw [hf]
  · rw [hf]; exact .inr hn
  · rw [hf] at hn; exact ⟨hn, id⟩

/-- The head leaves, and the BARRIER that waited for it completes (R11, R31, R37). -/
theorem popHead (h : TableForm [] s) {q : HeadedQueue}
    (hq : numbers s.pwq = q.head.number :: q.behind.map (·.number)) : TableForm [] (s.popHead q) := by
  have cleared : ∀ (sl : Slot) (n : Half), (sl.clearStamp q.head.number).postingStamp = some n →
      sl.postingStamp = some n ∧ n ≠ q.head.number := by
    intro sl n hn
    unfold Slot.clearStamp at hn
    split at hn
    · cases hn
    · next hne => exact ⟨hn, fun hnq => hne (hnq ▸ hn)⟩
  have keeps : KeepsStanding (Slot.clearStamp q.head.number) := by
    refine ⟨fun sl => ?_, fun sl => ?_, fun sl => ?_⟩ <;> unfold Slot.clearStamp <;> split <;> rfl
  refine completeBarriers_fold allSlots (headRemoved s q) (h.mapSlots keeps (fun _ _ _ => .inl rfl) fun sl n hn => ?_)
  obtain ⟨hsl, hne⟩ := cleared sl n hn
  refine ⟨hsl, fun hin => ?_⟩
  unfold numbers
  rw [headedBy_entries]
  rw [hq] at hin
  exact (List.mem_cons.mp hin).resolve_left hne

/-- Every posted write is discarded, and the table is reset slot by slot (R19, R31, R46). -/
theorem enterResetting (h : TableForm [] s) (cause : RestartCause) : TableForm [] (s.enterResetting cause) := by
  have hdrt : (emptied s cause).drt = s.drt.mapSlots fun sl => { sl with postingStamp := none } := by
    unfold emptied State.clearStamps
    rw [State.discardAll_drt]; rfl
  have hready : (emptied s cause).notices.ready = s.notices.ready := by
    unfold emptied
    rw [clearStamps_notices, State.discardAll_notices_ready]; rfl
  have cleared : TableForm allSlots { s with pwq := (emptied s cause).pwq, drt := (emptied s cause).drt } := by
    rw [hdrt]
    refine h.mapSlots ⟨fun _ => rfl, fun _ => rfl, fun _ => rfl⟩ (fun _ _ _ => .inl rfl) fun sl n hn => ?_
    cases hn
  have reset : TableForm [] (emptied s cause).resetSlots :=
    resetSlots_fold allSlots (emptied s cause) (cleared.congr rfl rfl hready)
  rw [enterResetting_eq]
  exact reset.congr (resetLearned_drt _) (by rw [resetLearned_pwq]) (by rw [resetLearned_notices])

theorem afterPartReset (cause : ResetCause) (lspd : BitVec 2) (level : Bool) (l : List Instr) :
    TableForm [] (State.afterPartReset cause lspd level l) := by
  have free : ∀ i : SlotId, (State.afterPartReset cause lspd level l).drt.slots[i] = none := fun i => by
    simp [State.afterPartReset]
  refine ⟨⟨List.nodup_nil, fun i => ?_⟩, fun i j a b ha => ?_, fun i sl hs => ?_, fun i sl hs => ?_, fun i hi => ?_⟩
  · rw [free i]; simp [isWaiting, State.afterPartReset]
  · rw [free i] at ha; cases ha
  · cases (free i).symm.trans hs
  · cases (free i).symm.trans hs
  · cases hi

/-- Every update keeps the table's form. -/
theorem updatesKeep : UpdatesKeep (TableForm []) where
  other _ _ hd hn hr _ h := h.congr hd hn hr
  hintTaken _ _ h := h.mono rfl (fun _ => id) fun _ => List.mem_of_mem_filter
  fill _ i _ notify hi hfresh hb h := (h.loosen i).fillSlot notify hi hfresh fun hreq => .inr (hb hreq)
  fillBarrier s i notify hi hfresh _ h :=
    (((h.loosen i).loosen i).fillSlot notify hi hfresh fun _ => .inl (by simp)).completeBarrier
      (fillSlot_slot_self s i .barrier notify) ⟨rfl, rfl⟩
  rewrite _ _ _ _ hs hr hst h := h.rewrite hs hr hst
  complete _ i _ _ st hs hl hr h := (h.loosen i).complete st hs hl hr
  retry _ _ _ _ hs ha hr hst h := h.retry hs ha hr hst
  activate _ _ _ hs hst h := h.activate hs hst
  orphan _ _ _ hs ha h := h.orphan hs ha
  free _ i h := (h.loosen i).free
  forget _ gone h := h.forgetNotices gone
  append s _ _ _ _ h := by
    refine h.mono rfl (fun n hn => ?_) fun _ => id
    unfold numbers
    rw [Pwq.append_entries, List.map_append]
    exact List.mem_append_left _ hn
  popHead _ _ hq h := h.popHead hq
  enterResetting _ cause h := h.enterResetting cause
  partReset := afterPartReset

end TableForm

/-- Settles O57, by the updates that all operations are made of. -/
theorem tableFormKept : Obligations.TableFormKept := by
  intro s t hs ht hh
  rw [← tableForm_nil_iff]
  exact TableForm.updatesKeep.kept.step s t (fun h => (tableForm_nil_iff s).mpr (hs h)) ht hh

end Sys2Proof.DelayedRequests
end

section
/-!
The requests of the Delayed Request Table as the dispatcher executes them, and the expiry of a discard deadline.
-/

namespace Sys2Proof.DelayedRequests

open Sys2Proof.Machine Sys2Proof.Safety Sys2Proof.Laws Sys2Proof.PostedWrites

/-! ### The rows (R25, R189) -/

/-- A row whose payload parses is answered as the table takes the request. -/
theorem exec_delayedRow {s : State} {seq : Byte} {payload : List Byte} {req : DelayedReq} {notify : Bool}
    {row : Instr × Byte × Option (DelayedReq × Bool)} (hrow : row ∈ delayedRows seq payload)
    (hops : row.2.2 = some (req, notify)) (hx : Executes s seq row.2.1 payload) :
    exec row.1 s = .next (answered (s.takeDelayed req notify).1 seq row.2.1 (s.takeDelayed req notify).2) := by
  simp only [delayedRows, nodeRequestRows, List.cons_append, List.nil_append, List.mem_cons, List.not_mem_nil,
    or_false] at hrow
  have taken := request_parsed hx State.delayedOwner hops
  rcases hrow with rfl | rfl | rfl | rfl | rfl
  all_goals exact congrArg Host.Outcome.next taken

/-- The payloads of the rows to a node parse to no BARRIER. -/
theorem nodeRequestRows_not_barrier {seq : Byte} {payload : List Byte} {req : DelayedReq} {notify : Bool}
    {row : Instr × Byte × Option (DelayedReq × Bool)} (hrow : row ∈ nodeRequestRows seq payload)
    (hops : row.2.2 = some (req, notify)) : req ≠ .barrier := by
  rintro rfl
  simp only [nodeRequestRows, List.mem_cons, List.not_mem_nil, or_false] at hrow
  rcases hrow with rfl | rfl | rfl | rfl
  · unfold confirmWriteOperands at hops
    repeat' split at hops
    all_goals cases hops
  · unfold readRegsOperands at hops
    repeat' split at hops
    all_goals cases hops
  · unfold readBlockOperands at hops
    repeat' split at hops
    all_goals cases hops
  · unfold probeNodeOperands at hops
    repeat' split at hops
    all_goals cases hops

/-! ### Taking a request (R25) -/

section Taking

variable {s : State} {req : DelayedReq}

theorem takeDelayed_of_match {i : SlotId} {sl : Slot} (notify : Bool) (hk : KeysDistinct s.drt)
    (hs : s.slot i = some sl) (hl : sl.state.live = true) (hr : sl.req = req) :
    s.takeDelayed req notify = s.repeatAnswer i := by
  unfold State.takeDelayed
  rw [State.liveMatch_eq_some hk hs hl hr]

variable (notify : Bool) (hn : NoLiveMatch s req)

include hn

theorem takeDelayed_of_absent (ha : s.reqAbsent req = true) :
    s.takeDelayed req notify = (s, .refused .nodeAbsent) := by
  unfold State.takeDelayed
  rw [State.liveMatch_eq_none hn]
  simp only
  rw [if_pos ha]

theorem takeDelayed_of_full (ha : s.reqAbsent req = false) (hfull : ∀ j : SlotId, (s.slot j).isSome = true) :
    s.takeDelayed req notify = (s, .refused .tableFull) := by
  unfold State.takeDelayed
  rw [State.liveMatch_eq_none hn, State.lowestFree_eq_none hfull]
  simp [ha]

theorem takeDelayed_of_free {i : SlotId} (ha : s.reqAbsent req = false) (hi : LowestFree s i) :
    s.takeDelayed req notify = s.fillAnswer i req notify := by
  unfold State.takeDelayed
  rw [State.liveMatch_eq_none hn, State.lowestFree_eq hi]
  simp [ha]

end Taking

/-- The request's node is ABSENT, and the request is no PROBE_NODE (R25). -/
theorem reqAbsent_iff (s : State) (req : DelayedReq) : s.reqAbsent req = true ↔
    ∃ n, req.node? = some n ∧ req ≠ .probeNode n ∧ (s.node n).presence = .absent := by
  unfold State.reqAbsent DelayedReq.guardedNode?
  cases req <;> simp [DelayedReq.node?, absent_iff]

/-! ### A new request fills a slot (R26, R29) -/

theorem newest_isSome (q : Pwq) : q.newest.isSome = q.queue.isSome := by
  unfold Pwq.newest Pwq.entries
  cases q.queue with
  | none => rfl
  | some h => simp [List.getLast?_cons]

theorem newest_eq_none_iff (q : Pwq) : q.newest = none ↔ q.queue = none := by
  rw [← Option.not_isSome_iff_eq_none, ← Option.not_isSome_iff_eq_none, newest_isSome]

/-- The reason a slot just filled waits (R29). -/
theorem fillSlot_reason (s : State) (i : SlotId) (req : DelayedReq) (notify : Bool) :
    (s.fillSlot i req notify).fillReason i =
      if s.pwq.queue.isSome then .posted else if s.seg.state = .running then .queued else .segment := by
  unfold State.fillReason State.holdReason
  rw [fillSlot_slot_self]
  simp only [Slot.filled, newest_isSome, State.fillSlot_seg]
  by_cases hr : s.seg.state = .running <;> simp [hr]

theorem fillAnswer_of_node {s : State} {i : SlotId} {req : DelayedReq} (notify : Bool) (hb : req ≠ .barrier) :
    s.fillAnswer i req notify = ((s.fillSlot i req notify).schedule, .deferred i .waiting
      (if s.pwq.queue.isSome then .posted else if s.seg.state = .running then .queued else .segment)) := by
  unfold State.fillAnswer
  simp only
  rw [if_neg hb, fillSlot_reason]

/-- Settles O9: the request fills the lowest FREE slot, and the scheduler decides once the answer is built. -/
theorem newDelayedRequestWaits : Obligations.NewDelayedRequestWaits := by
  intro s seq payload req notify i row hrow hops hx hn ha hi
  have hfill := takeDelayed_of_free notify hn ha hi
  rw [fillAnswer_of_node notify (nodeRequestRows_not_barrier hrow hops)] at hfill
  rw [exec_delayedRow (List.mem_append_left _ hrow) hops hx, hfill]; rfl

/-- Settles O10, check by check. -/
theorem delayedRequestRefused : Obligations.DelayedRequestRefused := by
  intro s seq payload req notify row hrow hops hx hn
  refine ⟨fun n hnode hprobe habsent => ?_, fun hpresent hfull => ?_⟩
  · rw [exec_delayedRow hrow hops hx,
      takeDelayed_of_absent notify hn ((reqAbsent_iff s req).mpr ⟨n, hnode, hprobe, habsent⟩)]
  · have ha : s.reqAbsent req = false := by
      rw [Bool.eq_false_iff, ne_eq, reqAbsent_iff]
      rintro ⟨n, hnode, hprobe, habsent⟩
      exact (hpresent n hnode).elim hprobe fun h => h habsent
    rw [exec_delayedRow hrow hops hx, takeDelayed_of_full notify hn ha hfull]

/-! ### A repeat (R27, R28, R30) -/

theorem undelivered_eq_false {sl : Slot} (h : sl.req.kind = .readBlock → sl.fetchCursor ≤ sl.deliveryCursor) :
    sl.undelivered = false := by
  unfold Slot.undelivered
  cases hreq : sl.req with
  | readBlock n a c => simpa [hreq, DelayedReq.kind] using h
  | confirmWrite n a d => rfl
  | readRegs n a c => rfl
  | probeNode n => rfl
  | barrier => rfl

theorem repeatAnswer_of_running {s : State} {i : SlotId} {sl : Slot} (hs : s.slot i = some sl) (hr : Running sl)
    (hu : sl.undelivered = false) : s.repeatAnswer i = (s, .deferred i sl.state (s.holdReason i sl)) := by
  have hrun : s.runningAnswer i sl = (s, .deferred i sl.state (s.holdReason i sl)) := by
    unfold State.runningAnswer; simp [hu]
  rw [← hrun]
  unfold State.repeatAnswer
  rw [hs]
  rcases hr with h | h <;> simp only [h]

theorem repeatAnswer_of_complete {s : State} {i : SlotId} {sl : Slot} (hs : s.slot i = some sl)
    (hc : sl.state = .complete) : s.repeatAnswer i =
      if sl.dataStamp = .clear then (s.freeSlot i, .result i sl.result sl.tail) else (s, .deferred i .complete .order) := by
  unfold State.repeatAnswer
  rw [hs]
  simp only [hc]; rfl

theorem holdReason_waiting (s : State) (i : SlotId) {sl : Slot} (h : sl.state = .waiting) : s.holdReason i sl =
    if sl.postingStamp ≠ none then .posted
      else if s.seg.state ≠ .running then .segment
      else if sl.gap ≠ none then .gap
      else .queued := by
  unfold State.holdReason
  simp only [h, Option.isSome_iff_ne_none, bne_iff_ne]

theorem inFlight_iff (s : State) (i : SlotId) :
    s.inFlight i = true ↔ ∃ x, s.engine.txn = some x ∧ x.requester = .d i := by
  unfold State.inFlight
  cases s.engine.txn <;> simp

theorem holdReason_active (s : State) (i : SlotId) {sl : Slot} (h : sl.state = .active) :
    s.holdReason i sl = if s.inFlight i then .inFlight else .queued := by
  unfold State.holdReason
  simp only [h]

/-- Settles O12, by the state of the slot and the engine's transaction. -/
theorem repeatOfRunningSlotDeferred : Obligations.RepeatOfRunningSlotDeferred := by
  intro s seq payload req notify i sl row hrow hops hx hk hs hreq hcursor
  have hu : sl.undelivered = false := undelivered_eq_false (by rw [hreq]; exact hcursor)
  have deferred : Running sl →
      exec row.1 s = .next (answered s seq row.2.1 (.deferred i sl.state (s.holdReason i sl))) := by
    intro hr
    have hlive : sl.state.live = true := by rcases hr with h | h <;> rw [h] <;> rfl
    rw [exec_delayedRow hrow hops hx, takeDelayed_of_match notify hk hs hlive hreq, repeatAnswer_of_running hs hr hu]
  refine ⟨fun hw => ?_, fun x ha hx hd => ?_, fun ha hne => ?_⟩
  · rw [deferred (.inl hw), holdReason_waiting s i hw, hw]
  · rw [deferred (.inr ha), holdReason_active s i ha, if_pos ((inFlight_iff s i).mpr ⟨x, hx, hd⟩), ha]
  · rw [deferred (.inr ha), holdReason_active s i ha, if_neg, ha]
    rw [inFlight_iff]
    rintro ⟨x, hx, hd⟩
    exact hne x hx hd

/-- Settles O13, by the data notice stamp. -/
theorem completeSlotCollected : Obligations.CompleteSlotCollected := by
  intro s seq payload req notify i sl row hrow hops hx hk hs hreq hc
  have hexec := exec_delayedRow hrow hops hx
  rw [takeDelayed_of_match notify hk hs (by rw [hc]; rfl) hreq, repeatAnswer_of_complete hs hc] at hexec
  refine ⟨fun hclear => ?_, fun n hheld => ?_⟩
  · rw [hexec, if_pos hclear, ← hreq]; rfl
  · rw [hexec, if_neg (by rw [hheld]; simp)]

/-! ### BARRIER (R26, R37) -/

theorem barrierOperands_payload (notify : Bool) : barrierOperands [flagByte notify] = some (.barrier, notify) := by
  unfold barrierOperands
  simp only [flagField_flagByte]

theorem exec_barrier {s : State} {seq : Byte} {notify : Bool} {i : SlotId}
    (hx : Executes s seq 0x14 [flagByte notify]) (hn : NoLiveMatch s .barrier) (hi : LowestFree s i) :
    exec (.barrier seq [flagByte notify]) s =
      .next (answered (s.fillAnswer i .barrier notify).1 seq 0x14 (s.fillAnswer i .barrier notify).2) := by
  have hrow : ((.barrier seq [flagByte notify], 0x14, barrierOperands [flagByte notify]) :
      Instr × Byte × Option (DelayedReq × Bool)) ∈ delayedRows seq [flagByte notify] := by simp [delayedRows]
  have hexec := exec_delayedRow hrow (barrierOperands_payload notify) hx
  rwa [takeDelayed_of_free notify hn rfl hi] at hexec

/-- Behind posted writes a BARRIER waits. -/
theorem fillAnswer_barrier_of_some {s : State} {i : SlotId} (notify : Bool) {q : HeadedQueue}
    (hq : s.pwq.queue = some q) :
    s.fillAnswer i .barrier notify = (s.fillSlot i .barrier notify, .deferred i .waiting .posted) := by
  have hc : ¬(s.fillSlot i .barrier notify).clearBarrier i = true := by
    rw [fillSlot_clearBarrier, newest_eq_none_iff, hq]; simp
  unfold State.fillAnswer
  simp only
  rw [if_pos trivial, if_neg hc, fillSlot_reason, hq]; rfl

/-- The record of a BARRIER that completes as it is taken. -/
def barrierDone (s : State) (notify : Bool) : Slot :=
  Slot.completed { Slot.filled .barrier notify none with lossCount := s.pwq.lossCount } .ok s.notices.newest
    s.params.discardTime

/-- The state when a BARRIER has completed as it was taken. -/
def barrierAtOnce (s : State) (i : SlotId) (notify : Bool) : State := (s.fillSlot i .barrier notify).completeBarrier i

theorem barrierAtOnce_eq {s : State} (i : SlotId) (notify : Bool) (hq : s.pwq.queue = none) :
    barrierAtOnce s i notify =
      { (s.fillSlot i .barrier notify).completeWith i { Slot.filled .barrier notify none with lossCount := s.pwq.lossCount } .ok
          with pwq := { s.pwq with lossCount := 0 } } := by
  unfold barrierAtOnce State.completeBarrier
  rw [fillSlot_slot_self, (newest_eq_none_iff s.pwq).mpr hq]; rfl

/-- With an empty queue a BARRIER completes at once. -/
theorem fillAnswer_barrier_of_none {s : State} {i : SlotId} (notify : Bool) (hq : s.pwq.queue = none) :
    s.fillAnswer i .barrier notify = (barrierAtOnce s i notify).repeatAnswer i := by
  have hc : (s.fillSlot i .barrier notify).clearBarrier i = true := by
    rw [fillSlot_clearBarrier, newest_eq_none_iff, hq]
  unfold State.fillAnswer
  simp only
  rw [if_pos trivial, if_pos hc]; rfl

theorem barrierAtOnce_slot_self {s : State} (i : SlotId) (notify : Bool) (hq : s.pwq.queue = none) :
    (barrierAtOnce s i notify).slot i = some (barrierDone s notify) := by
  rw [barrierAtOnce_eq i notify hq]
  exact completeWith_slot_self (s.fillSlot i .barrier notify) i _ .ok

theorem barrierAtOnce_slot_ne {s : State} {i j : SlotId} (notify : Bool) (h : j ≠ i) :
    (barrierAtOnce s i notify).slot j = s.slot j := by
  unfold barrierAtOnce
  rw [completeBarrier_slot_ne _ i j h, fillSlot_slot_ne s .barrier notify h]

theorem barrierAtOnce_ready {s : State} (i : SlotId) (notify : Bool) (hq : s.pwq.queue = none) :
    i ∈ (barrierAtOnce s i notify).notices.ready ↔ notify = true ∨ i ∈ s.notices.ready := by
  rw [barrierAtOnce_eq i notify hq]
  cases notify with
  | true => simp [Slot.filled, allSlots]
  | false => simp [Slot.filled]

/-- Its answer: RESULT when no notice is held, else the ORDER hold (R28, R66, R69). -/
theorem barrierAtOnce_answer {s : State} (i : SlotId) (notify : Bool) (hq : s.pwq.queue = none) :
    (barrierAtOnce s i notify).repeatAnswer i =
      if s.notices.newest = .clear then
        ((barrierAtOnce s i notify).freeSlot i, .result i (some .ok) (.barrier s.pwq.lossCount))
      else (barrierAtOnce s i notify, .deferred i .complete .order) :=
  repeatAnswer_of_complete (barrierAtOnce_slot_self i notify hq) rfl

theorem newest_of_nil {b : NoticeBlock} (h : b.queue = []) : b.newest = .clear := by
  unfold NoticeBlock.newest; rw [h]; rfl

theorem newest_of_getLast {b : NoticeBlock} {e : Notice} (h : b.queue.getLast? = some e) : b.newest = .held e.number := by
  unfold NoticeBlock.newest; rw [h]

theorem freeSlot_slot_self (s : State) (i : SlotId) : (s.freeSlot i).slot i = none := slot_set_self s i none _

theorem freeSlot_slot_ne (s : State) {i j : SlotId} (h : j ≠ i) : (s.freeSlot i).slot j = s.slot j :=
  slot_set_ne s i j none _ h

/-- Settles O11, by whether posted writes are queued, and then by whether a notice is held. -/
theorem barrierTaken : Obligations.BarrierTaken := by
  intro s seq notify i hx hn hi
  rw [exec_barrier hx hn hi]
  rcases Option.eq_none_or_eq_some s.pwq.queue with hq | ⟨q, hq⟩
  · rw [fillAnswer_barrier_of_none notify hq, barrierAtOnce_answer i notify hq]
    have hready := barrierAtOnce_ready i notify hq
    have hself := barrierAtOnce_slot_self i notify hq
    have hothers : ∀ j : SlotId, j ≠ i → (barrierAtOnce s i notify).slot j = s.slot j := fun j =>
      barrierAtOnce_slot_ne notify
    have heq := barrierAtOnce_eq i notify hq
    generalize barrierAtOnce s i notify = t at *
    by_cases hclear : s.notices.newest = .clear
    · rw [if_pos hclear]
      refine ⟨t.freeSlot i, _, rfl, fun j hj => (freeSlot_slot_ne t hj).trans (hothers j hj), ?_⟩
      subst heq
      refine ⟨rfl, rfl, rfl, ?_, rfl, rfl, rfl, fun q hq' => (by rw [hq] at hq'; cases hq'), fun _ =>
        ⟨rfl, rfl, fun _ => ⟨rfl, freeSlot_slot_self _ i⟩, fun e he => ?_⟩⟩
      · simp
      · rw [newest_of_getLast he] at hclear; cases hclear
    · rw [if_neg hclear]
      refine ⟨t, _, rfl, hothers, ?_⟩
      subst heq
      refine ⟨rfl, rfl, rfl, ?_, rfl, rfl, rfl, fun q hq' => (by rw [hq] at hq'; cases hq'), fun _ =>
        ⟨rfl, rfl, fun hnil => absurd (newest_of_nil hnil) hclear, fun e he => ⟨rfl, _, hself, rfl, rfl, rfl, rfl,
          newest_of_getLast he, ?_, rfl, hready⟩⟩⟩
      · simp
      · simp
  · rw [fillAnswer_barrier_of_some notify hq]
    refine ⟨s.fillSlot i .barrier notify, _, rfl, fun j => fillSlot_slot_ne s .barrier notify, rfl, rfl, rfl, rfl, rfl, rfl,
      rfl, fun q' _ => ⟨rfl, rfl, rfl, rfl, _, fillSlot_slot_self s i .barrier notify, rfl, rfl, rfl, rfl⟩,
      fun hnone => ?_⟩
    rw [hq] at hnone; cases hnone

/-! ### CANCEL_SLOT (R44) -/

theorem cancelOperands_payload (i : SlotId) : cancelOperands [slotByte i] = some i := slotField_slotByte i

theorem exec_cancelSlot {s : State} {seq : Byte} {i : SlotId} (hx : Executes s seq 0x15 [slotByte i]) :
    exec (.cancelSlot seq [slotByte i]) s = .next (answered (s.cancel i).1 seq 0x15 (s.cancel i).2) := by
  have taken := request_parsed hx State.cancel (cancelOperands_payload i)
  exact congrArg Host.Outcome.next taken

theorem cancel_of_free {s : State} {i : SlotId} (h : s.slot i = none) : s.cancel i = (s, .refused .noSuchSlot) := by
  unfold State.cancel; rw [h]

theorem cancel_of_orphaned {s : State} {i : SlotId} {sl : Slot} (hs : s.slot i = some sl) (h : sl.state = .orphaned) :
    s.cancel i = (s, .refused .noSuchSlot) := by
  unfold State.cancel; rw [hs]; simp only [h]

/-- A slot with no transaction under way is freed. -/
theorem cancel_of_idle {s : State} {i : SlotId} {sl : Slot} (hs : s.slot i = some sl) (ho : sl.state ≠ .orphaned)
    (hidle : sl.state = .active → s.inFlight i = false) : s.cancel i = (s.freeSlot i, .doneCancel i) := by
  unfold State.cancel
  rw [hs]
  cases hst : sl.state with
  | waiting => simp only [hst]
  | complete => simp only [hst]
  | orphaned => exact absurd hst ho
  | active => simp [hst, hidle hst]

theorem cancel_of_inFlight {s : State} {i : SlotId} {sl : Slot} (hs : s.slot i = some sl) (ha : sl.state = .active)
    (hf : s.inFlight i = true) : s.cancel i = (s.setSlot i (some sl.orphan), .doneCancel i) := by
  unfold State.cancel
  rw [hs]
  simp only [ha]
  rw [if_pos hf]

/-- Settles O15, by the state of the slot. -/
theorem cancelSlotFrees : Obligations.CancelSlotFrees := by
  intro s seq i hx
  rw [exec_cancelSlot hx]
  refine ⟨fun hfree => ?_, fun sl hs => ⟨fun ho => ?_, fun hst => ?_, fun x ha hx hd => ?_⟩⟩
  · rw [cancel_of_free hfree]
  · rw [cancel_of_orphaned hs ho]
  · have ho : sl.state ≠ .orphaned := by rcases hst with h | h | ⟨h, -⟩ <;> rw [h] <;> decide
    have hidle : sl.state = .active → s.inFlight i = false := by
      intro ha
      rw [Bool.eq_false_iff, ne_eq, inFlight_iff]
      rintro ⟨x, hx, hd⟩
      rcases hst with h | h | ⟨-, h⟩
      · rw [ha] at h; cases h
      · rw [ha] at h; cases h
      · exact h x hx hd
    rw [cancel_of_idle hs ho hidle]; rfl
  · refine ⟨sl.orphan, rfl, rfl, rfl, rfl, ?_⟩
    rw [cancel_of_inFlight hs ha ((inFlight_iff s i).mpr ⟨x, hx, hd⟩)]; rfl

/-! ### DISCARD_EXPIRY (R42) -/

theorem exec_discardExpiry {s : State} {i : SlotId} {sl : Slot} (hh : s.held = none) (hs : s.slot i = some sl)
    (hd : sl.discard.isSome = true) : exec (.discardExpiry i) s = .next (s.discardSlot i sl).arbitrate := by
  show Host.Outcome.next _ = _
  rw [State.event_of_running hh]
  unfold State.discardEnds
  rw [hs]
  simp only
  rw [if_pos hd]

/-- The fault's fields (R42, R61, R147). -/
theorem discardDetail_eq (i : SlotId) (sl : Slot) : sl.discardDetail i =
    .completionDiscarded i sl.req (if sl.req = .barrier then sl.lossCount else sl.req.count) sl.result
      (if sl.req.kind = .readBlock then sl.fetchCursor - sl.deliveryCursor else 0) := by
  unfold Slot.discardDetail Slot.discardCount Slot.leftover
  cases sl.req <;> simp [DelayedReq.kind]

theorem discardSlot_notices (s : State) (i : SlotId) (sl : Slot) :
    (s.discardSlot i sl).notices = (s.notices.removeHint i).enterFault (sl.discardDetail i) := rfl

/-- Settles O51: the slot is freed and its fault handed over; the arbiter takes no notice away and adds no hint. -/
theorem discardExpiryFreesSlot : Obligations.DiscardExpiryFreesSlot := by
  intro s i sl g hh hs hg
  have hslot : ∀ j, (s.discardSlot i sl).arbitrate.slot j = (s.freeSlot i).slot j := fun j =>
    slot_congr (State.arbitrate_drt _) j
  obtain ⟨hnext, hlost⟩ := arbitrate_numbers (s.discardSlot i sl)
  refine ⟨_, exec_discardExpiry hh hs (by rw [hg]; rfl), ?_, fun j hj => ?_, ?_, fun hi => ?_, by simp, by simp, by simp,
    by simp, by simp, by simp, by simp, by simp, fun hroom => ?_, fun hfull => ?_⟩
  · rw [hslot, freeSlot_slot_self]
  · rw [hslot, freeSlot_slot_ne s hj]
  · simp
  · have hready := arbitrate_ready _ i hi
    rw [discardSlot_notices] at hready
    simp at hready
  · obtain ⟨hc, hn, hl⟩ := enterFault_contents (s.notices.removeHint i) (sl.discardDetail i) hroom
    rw [arbitrate_contents, hnext, hlost, discardSlot_notices, hc, hn, hl, discardDetail_eq]
    exact ⟨rfl, rfl, rfl⟩
  · obtain ⟨hc, hn, hl⟩ := enterFault_full (s.notices.removeHint i) (sl.discardDetail i) hfull
    rw [arbitrate_contents, hnext, hlost, discardSlot_notices, hc, hn, hl]
    exact ⟨rfl, rfl, rfl⟩

end Sys2Proof.DelayedRequests
end

section
/-!
A slot at the end of its transaction's event: what the decisions that follow the release of the grant leave of it.
-/

namespace Sys2Proof.DelayedRequests

open Sys2Proof.Machine Sys2Proof.Safety Sys2Proof.Laws Sys2Proof.PostedWrites

/-! ### A slot that a decision does not look at -/

/-- Slot i is as it was: its record, its hint, and its place at the tail of the order list. -/
structure Untouched (i : SlotId) (s t : State) : Prop where
  slot : t.slot i = s.slot i
  hint : i ∈ t.notices.ready ↔ i ∈ s.notices.ready
  last : s.drt.order.getLast? = some i → t.drt.order.getLast? = some i

namespace Untouched

variable {i : SlotId}

theorem refl (i : SlotId) (s : State) : Untouched i s s := ⟨rfl, Iff.rfl, id⟩

theorem trans {s t u : State} (h₁ : Untouched i s t) (h₂ : Untouched i t u) : Untouched i s u :=
  ⟨h₂.slot.trans h₁.slot, h₂.hint.trans h₁.hint, h₂.last ∘ h₁.last⟩

/-- An update of other blocks. -/
theorem aside {s t : State} (hd : t.drt = s.drt) (hr : t.notices.ready = s.notices.ready) : Untouched i s t :=
  ⟨slot_congr hd i, by rw [hr], by rw [hd]; exact id⟩

theorem getLast?_filter_ne {l : List SlotId} {j : SlotId} (hji : j ≠ i) (h : l.getLast? = some i) :
    (l.filter (· != j)).getLast? = some i := by
  obtain ⟨front, rfl⟩ := List.getLast?_eq_some_iff.mp h
  simp [Ne.symm hji]

theorem completeSlot {s : State} {j : SlotId} (st : ResultStatus) (hji : j ≠ i) :
    Untouched i s (s.completeSlot j st) := by
  unfold State.completeSlot
  split
  · next sl _ =>
    refine ⟨completeWith_slot_ne s j i sl st (Ne.symm hji), ?_, getLast?_filter_ne hji⟩
    rw [State.completeWith_notices]
    split
    · simp [Ne.symm hji, allSlots]
    · exact Iff.rfl
  · exact refl i s

theorem grantSlot {s : State} {j : SlotId} (sl : Slot) (hji : j ≠ i) : Untouched i s (s.grantSlot j sl) :=
  ⟨slot_set_ne s j i _ _ (Ne.symm hji), Iff.rfl, getLast?_filter_ne hji⟩

theorem offerSlot : ∀ (l : List SlotId) (s : State), i ∉ l → Untouched i s (State.offerSlot l s).1
  | [], s, _ => refl i s
  | j :: rest, s, h => by
    rw [List.mem_cons, not_or] at h
    unfold State.offerSlot
    split
    · exact (completeSlot .nodeAbsent (Ne.symm h.1)).trans (offerSlot rest _ h.2)
    · exact refl i s

theorem grant {s : State} (g : Choice) {d : Option SlotId} (c : Option CollectOffer) (hd : d ≠ some i) :
    Untouched i s (s.grant g d c) := by
  unfold State.grant
  cases g with
  | p =>
    simp only
    split
    · exact aside (by simp) (by simp)
    · exact refl i s
  | d =>
    cases d with
    | none => exact refl i s
    | some j =>
      simp only
      split
      · exact grantSlot _ fun hji => hd (by rw [hji])
      · exact refl i s
  | c =>
    simp only
    split
    · exact aside (by simp) (by simp)
    · exact aside (by simp) (by simp)
    · exact refl i s

theorem grantNext {s : State} {d : Option SlotId} (hd : d ≠ some i) : Untouched i s (s.grantNext d) := by
  unfold State.grantNext
  split
  · exact refl i s
  · next g _ =>
    have shared : Untouched i s { s with sched := s.sched.afterGrant g d.isSome s.candidateC.isSome } := aside rfl rfl
    exact shared.trans (grant g _ hd)

theorem schedule {s : State} (h : i ∉ s.offerList) : Untouched i s s.schedule := by
  by_cases hidle : s.seg.state = .running ∧ s.engine.txn = none
  · rw [schedule_eq_grantNext hidle.1 hidle.2]
    have looked : Untouched i s.removeAbsentMembers (offered s).1 := offerSlot _ _ h
    have removed : Untouched i s s.removeAbsentMembers := aside rfl rfl
    refine (removed.trans looked).trans (grantNext fun hd => h ?_)
    exact offerSlot_mem _ s.removeAbsentMembers i hd
  · unfold State.schedule
    rw [if_neg hidle]
    exact refl i s

end Untouched

/-- Slot i is neither ACTIVE nor WAITING in no gap, so no decision looks at it (R32). -/
def AtRest (s : State) (i : SlotId) : Prop :=
  ∀ sl, s.slot i = some sl → sl.state ≠ .active ∧ (sl.state = .waiting → sl.gap.isSome = true)

theorem not_mem_offerList {s : State} {i : SlotId} (h : AtRest s i) : i ∉ s.offerList := by
  unfold State.offerList
  rw [List.mem_append, List.mem_filter, List.mem_filter]
  rintro (⟨-, hi⟩ | ⟨-, hi⟩)
  · unfold State.idleActive at hi
    cases hs : s.slot i with
    | none => rw [hs] at hi; cases hi
    | some sl =>
      rw [hs] at hi
      simp only [Bool.and_eq_true, beq_iff_eq] at hi
      exact (h sl hs).1 hi.1
  · unfold State.eligible at hi
    cases hs : s.slot i with
    | none => rw [hs] at hi; cases hi
    | some sl =>
      rw [hs] at hi
      simp only [Bool.and_eq_true, beq_iff_eq, Option.isNone_iff_eq_none] at hi
      have hgap := (h sl hs).2 hi.1.1.1.1
      rw [hi.1.1.2] at hgap
      cases hgap

/-- A hint on the Ready List stays there or is taken for TXD (R159). -/
theorem arbitrate_hint {s : State} {i : SlotId} (h : i ∈ s.notices.ready) :
    i ∈ s.arbitrate.notices.ready ∨ ∃ o : Outgoing, s.arbitrate.link.tx = some o ∧ o.kind = .hint i := by
  rcases s.arbitrate_cases with e | e | e | ⟨r, -, e⟩ | ⟨n, -, e⟩ | ⟨j, rest, sl, -, -, e⟩ <;> rw [e]
  · exact .inl h
  · exact .inl h
  · exact .inl h
  · exact .inl h
  · exact .inl h
  · by_cases hij : i = j
    · exact .inr ⟨_, rfl, by rw [hij]⟩
    · exact .inl (List.mem_filter.mpr ⟨h, by simpa using hij⟩)

/-! ### The end of the event -/

theorem released_slot_of_rest {u : State} {i : SlotId} (h : AtRest u i) : (released u).slot i = u.slot i :=
  (slot_congr (State.arbitrate_drt _) i).trans (Untouched.schedule (s := u.release) (not_mem_offerList h)).slot

theorem released_last {u : State} {i : SlotId} (h : AtRest u i) (hl : u.drt.order.getLast? = some i) :
    (released u).drt.order.getLast? = some i := by
  unfold released
  rw [State.arbitrate_drt]
  exact (Untouched.schedule (s := u.release) (not_mem_offerList h)).last hl

theorem released_not_hinted {u : State} {i : SlotId} (h : AtRest u i) (hr : i ∉ u.notices.ready) :
    i ∉ (released u).notices.ready := fun hi =>
  hr ((Untouched.schedule (s := u.release) (not_mem_offerList h)).hint.mp (arbitrate_ready _ i hi))

theorem released_hinted {u : State} {i : SlotId} (h : AtRest u i) (hr : i ∈ u.notices.ready) :
    i ∈ (released u).notices.ready ∨ ∃ o : Outgoing, (released u).link.tx = some o ∧ o.kind = .hint i :=
  arbitrate_hint ((Untouched.schedule (s := u.release) (not_mem_offerList h)).hint.mpr hr)

theorem released_newest (u : State) : (released u).notices.newest = u.notices.newest :=
  newest_of_contents (decisionKeeps_released u).contents

/-- An ACTIVE slot whose node does not stop it stays as it is, whoever is granted. -/
theorem released_slot_of_active {u : State} {i : SlotId} {r : Slot} (hs : u.slot i = some r) (ha : r.state = .active)
    (hp : u.reqAbsent r.req = false) : (released u).slot i = some r := by
  refine (slot_congr (State.arbitrate_drt _) i).trans (schedule_keeps_slot u.release i r hs (.inr ⟨ha, ?_⟩))
  exact hp

/-- A slot that has completed. -/
theorem completeWith_atRest (u : State) (i : SlotId) (r : Slot) (st : ResultStatus) : AtRest (u.completeWith i r st) i := by
  intro sl hs
  cases (completeWith_slot_self u i r st).symm.trans hs
  exact ⟨by simp [Slot.completed], fun h => by simp [Slot.completed] at h⟩

theorem completeWith_newest (u : State) (i : SlotId) (r : Slot) (st : ResultStatus) :
    (u.completeWith i r st).notices.newest = u.notices.newest := by
  unfold NoticeBlock.newest
  rw [State.completeWith_notices_queue]

theorem completed_at_end (u : State) (i : SlotId) (r : Slot) (st : ResultStatus) :
    (released (u.completeWith i r st)).slot i = some (r.completed st u.notices.newest u.params.discardTime) ∧
      i ∉ (released (u.completeWith i r st)).drt.order ∧
      (released (u.completeWith i r st)).notices.newest = u.notices.newest := by
  refine ⟨?_, ?_, (released_newest _).trans (completeWith_newest u i r st)⟩
  · rw [released_slot_of_rest (completeWith_atRest u i r st), completeWith_slot_self]
  · exact (decisionKeeps_released _).order i (by simp)

/-- r has the request of sl and what sl has gathered. -/
structure SameProgress (sl r : Slot) : Prop where
  req : r.req = sl.req
  notify : r.notify = sl.notify
  bytesDelivered : r.bytesDelivered = sl.bytesDelivered
  bytesReceived : r.bytesReceived = sl.bytesReceived
  fetchCursor : r.fetchCursor = sl.fetchCursor
  deliveryCursor : r.deliveryCursor = sl.deliveryCursor
  data : r.data = sl.data

theorem completedAs_released {s u : State} (i : SlotId) {sl r : Slot} (st : ResultStatus) (hr : SameProgress sl r)
    (hp : u.params = s.params) : CompletedAs s (released (u.completeWith i r st)) i sl st := by
  obtain ⟨hslot, horder, hnewest⟩ := completed_at_end u i r st
  refine ⟨horder, fun hn => ?_, _, hslot, rfl, rfl, hr.req, rfl, hr.bytesDelivered, hr.bytesReceived, hr.fetchCursor,
    hr.deliveryCursor, hr.data, hnewest.symm, by rw [← hp]; rfl⟩
  exact released_hinted (completeWith_atRest u i r st) (completeWith_hint st (hr.notify.trans hn))

/-- The record of a slot sent back to WAITING (R33, R39). -/
def sentBack (sl : Slot) (mark : Bool) (gap : Nat) : Slot :=
  { sl with attempts := sl.attempts + 1, repeatPending := mark, state := .waiting, gap := some gap }

/-- Below the limit a retry outcome sends the slot to the tail of the order list (R39). -/
theorem slotRetry_at_end_of_lt {u : State} (i : SlotId) {sl : Slot} (mark : Bool)
    (h : sl.attempts + 1 < u.params.attemptLimit) :
    (released (u.slotRetry i sl mark)).drt.order.getLast? = some i ∧
      (released (u.slotRetry i sl mark)).slot i = some (sentBack sl mark u.params.retryGap) := by
  have hretry : u.slotRetry i sl mark =
      { u with drt := { slots := u.drt.slots.set i (some (sentBack sl mark u.params.retryGap))
                        order := u.drt.order ++ [i] } } := by
    unfold State.slotRetry
    simp only
    rw [if_neg (by omega)]; rfl
  have hself : (u.slotRetry i sl mark).slot i = some (sentBack sl mark u.params.retryGap) := by
    rw [hretry]; exact slot_set_self u i _ _
  have hrest : AtRest (u.slotRetry i sl mark) i := by
    intro r hr
    cases hself.symm.trans hr
    exact ⟨by simp [sentBack], fun _ => rfl⟩
  refine ⟨released_last hrest ?_, (released_slot_of_rest hrest).trans hself⟩
  rw [hretry]; simp

/-- At the limit it completes the slot (R39). -/
theorem slotRetry_of_le {u : State} (i : SlotId) {sl : Slot} (mark : Bool)
    (h : u.params.attemptLimit ≤ sl.attempts + 1) : u.slotRetry i sl mark =
      u.completeWith i { sl with attempts := sl.attempts + 1, repeatPending := mark } .retryExhausted := by
  unfold State.slotRetry
  simp only
  rw [if_pos h]

end Sys2Proof.DelayedRequests
end

section
/-!
The ends of a slot's transaction, outcome by outcome (R36, R38 to R40, R45, R52, R53).
-/

namespace Sys2Proof.DelayedRequests

open Sys2Proof.Machine Sys2Proof.Safety Sys2Proof.Laws Sys2Proof.PostedWrites

/-! ### The state in which the slot takes the outcome (R81) -/

/-- The Node Table has taken the outcome, and a READY head whose node it made ABSENT is gone (R16). -/
def beforeSlot (s : State) (cmd : Command) (o : SegOutcome) : State := (s.nodeOutcome cmd o).checkHead

theorem deliver_to_slot {s : State} {x : Transaction} {i : SlotId} (o : SegOutcome) (hr : x.requester = .d i) :
    (s.deliver x o).arbitrate = released ((beforeSlot s x.cmd o).slotOutcome i x.cmd o) := by
  unfold State.deliver State.granteeOutcome
  rw [hr]; rfl

theorem beforeSlot_node {s : State} {cmd : Command} {n : NodeId} (o : SegOutcome) (ht : cmd.target = .node n) :
    (beforeSlot s cmd o).node n = (s.node n).take cmd.kind s.params.silenceLimit o := by
  unfold beforeSlot
  rw [node_congr (State.checkHead_nodes _), nodeOutcome_node o ht, node_setNode_self]

theorem beforeSlot_params (s : State) (cmd : Command) (o : SegOutcome) : (beforeSlot s cmd o).params = s.params := by
  unfold beforeSlot; simp

theorem nodeOutcome_slot (s : State) (cmd : Command) (o : SegOutcome) (i : SlotId) :
    (s.nodeOutcome cmd o).slot i = s.slot i := slot_congr (State.nodeOutcome_drt s cmd o) i

/-- A slot that waited for no posted write is as it was. -/
theorem beforeSlot_slot {s : State} {i : SlotId} {sl : Slot} (cmd : Command) (o : SegOutcome) (hs : s.slot i = some sl)
    (hb : ¬WaitingBarrier sl) (hp : sl.postingStamp = none) : (beforeSlot s cmd o).slot i = some sl :=
  dropAbsentHeads_keeps_slot i sl (not_and_or.mp hb) hp _ _ ((nodeOutcome_slot s cmd o i).trans hs)

/-- A head that leaves takes at most the stamp of a slot that is no WAITING BARRIER (R31). -/
theorem popHead_slot {s : State} {i : SlotId} {sl : Slot} (q : HeadedQueue) (hs : s.slot i = some sl)
    (hb : ¬WaitingBarrier sl) : ∃ stamp, (s.popHead q).slot i = some { sl with postingStamp := stamp } := by
  have hremoved : (headRemoved s q).slot i = some (unstamped [q.head] sl) := by
    rw [headRemoved_slot q rfl, hs]; rfl
  rw [popHead_eq_headRemoved, completeBarriers_keeps_slot _ i _ hremoved
    (not_and_or.mp fun h => hb ((waitingBarrier_unstamped _ _).mp h))]
  unfold unstamped
  split
  · exact ⟨none, rfl⟩
  · exact ⟨sl.postingStamp, rfl⟩

theorem discardHead_slot {s : State} {i : SlotId} {sl : Slot} (q : HeadedQueue) (r : LossReason)
    (hs : s.slot i = some sl) (hb : ¬WaitingBarrier sl) :
    ∃ stamp, (s.discardHead q r).slot i = some { sl with postingStamp := stamp } := by
  unfold State.discardHead
  exact popHead_slot q hs hb

theorem dropAbsentHeads_slot {i : SlotId} : ∀ (fuel : Nat) (s : State) (sl : Slot), s.slot i = some sl →
    ¬WaitingBarrier sl → ∃ stamp, (State.dropAbsentHeads fuel s).slot i = some { sl with postingStamp := stamp }
  | 0, _, sl, hs, _ => ⟨sl.postingStamp, hs⟩
  | fuel + 1, s, sl, hs, hb => by
    unfold State.dropAbsentHeads
    split
    · exact ⟨sl.postingStamp, hs⟩
    · next q _ =>
      split
      · obtain ⟨stamp, hleft⟩ := discardHead_slot q .nodeAbsent hs hb
        exact dropAbsentHeads_slot fuel _ { sl with postingStamp := stamp } hleft hb
      · exact ⟨sl.postingStamp, hs⟩

theorem beforeSlot_slot_stamp {s : State} {i : SlotId} {sl : Slot} (cmd : Command) (o : SegOutcome)
    (hs : s.slot i = some sl) (hb : ¬WaitingBarrier sl) :
    ∃ stamp, (beforeSlot s cmd o).slot i = some { sl with postingStamp := stamp } :=
  dropAbsentHeads_slot _ _ sl ((nodeOutcome_slot s cmd o i).trans hs) hb

/-- An outcome other than NO_RESPONSE makes no node ABSENT (R110 to R113). -/
theorem absent_of_nodeOutcome {s : State} {cmd : Command} {o : SegOutcome} (ho : o ≠ .noResponse) {m : NodeId}
    (h : (s.nodeOutcome cmd o).absent m = true) : s.absent m = true := by
  cases ht : cmd.target with
  | broadcast => unfold State.nodeOutcome at h; rw [ht] at h; exact h
  | survey => unfold State.nodeOutcome at h; rw [ht] at h; exact h
  | node n =>
    rw [absent_iff] at h ⊢
    rw [nodeOutcome_node o ht] at h
    by_cases hmn : m = n
    · subst hmn
      rw [node_setNode_self] at h
      cases o with
      | noResponse => exact absurd rfl ho
      | garbled => exact h
      | ack => cases h
      | data b => cases h
      | wait => cases h
      | refuse r => cases h
      | report a c d => cases h
      | empty => cases h
      | ident b => cases h
    · rwa [node_setNode_ne s n m _ hmn] at h

theorem beforeSlot_of_headChecked {s : State} {cmd : Command} {o : SegOutcome} (h : HeadChecked s)
    (ho : o ≠ .noResponse) : beforeSlot s cmd o = s.nodeOutcome cmd o := by
  refine checkHead_of_headChecked fun q hq hr => Bool.eq_false_iff.mpr fun ha => ?_
  rw [State.nodeOutcome_pwq] at hq
  have hpresent := h q hq hr
  unfold State.headAbsent at ha hpresent
  cases ht : q.head.target with
  | none => rw [ht] at ha; cases ha
  | some m =>
    rw [ht] at ha hpresent
    simp only at ha hpresent
    rw [absent_of_nodeOutcome ho ha] at hpresent
    cases hpresent

/-! ### An ORPHANED slot (R45) -/

theorem slotOutcome_of_orphaned {u : State} {i : SlotId} {sl : Slot} (cmd : Command) (o : SegOutcome)
    (hs : u.slot i = some sl) (h : sl.state = .orphaned) : u.slotOutcome i cmd o = u.freeSlot i := by
  unfold State.slotOutcome
  rw [hs]; simp only [h]

theorem freeSlot_atRest (u : State) (i : SlotId) : AtRest (u.freeSlot i) i := by
  intro sl hs
  cases (freeSlot_slot_self u i).symm.trans hs

theorem freed_at_end (u : State) (i : SlotId) : (released (u.freeSlot i)).slot i = none ∧
    i ∉ (released (u.freeSlot i)).drt.order ∧ i ∉ (released (u.freeSlot i)).notices.ready ∧
    contents (released (u.freeSlot i)).notices = contents u.notices := by
  have hrest := freeSlot_atRest u i
  refine ⟨?_, (decisionKeeps_released _).order i (by simp), released_not_hinted hrest (by simp),
    (decisionKeeps_released _).contents⟩
  rw [released_slot_of_rest hrest, freeSlot_slot_self]

/-! ### An ACTIVE slot -/

theorem slotOutcome_of_active {u : State} {i : SlotId} {sl : Slot} (cmd : Command) (o : SegOutcome)
    (hs : u.slot i = some sl) (h : sl.state = .active) : u.slotOutcome i cmd o = u.activeOutcome i sl cmd o := by
  unfold State.slotOutcome
  rw [hs]; simp only [h]

section Commands

variable {req : DelayedReq} {cmd : Command} {n : NodeId} (hc : CommandFor req cmd) (ht : cmd.target = .node n)

include hc in
/-- A PROBE goes out for a PROBE_NODE alone (R36). -/
theorem commandFor_probe : (∃ m, req = .probeNode m) ↔ cmd.kind = .probe := by
  cases req with
  | probeNode m => exact ⟨fun _ => hc.1, fun _ => ⟨m, rfl⟩⟩
  | confirmWrite m a d => simp [show cmd.kind = .wr from hc.1]
  | readRegs m a c => simp [show cmd.kind = .rd from hc.1]
  | readBlock m a c => simp [show cmd.kind = .rd from hc.1]
  | barrier => exact hc.elim

include hc ht in
/-- The node of the slot is the one its command went to. -/
theorem commandFor_reqAbsent (u : State) :
    u.reqAbsent req = true ↔ cmd.kind ≠ .probe ∧ (u.node n).presence = .absent := by
  have same : ∀ m, cmd.target = .node m → m = n := fun m hm => by rw [ht] at hm; cases hm; rfl
  rw [reqAbsent_iff]
  cases req with
  | probeNode m => simp [DelayedReq.node?, show cmd.kind = .probe from hc.1]
  | confirmWrite m a d => simp [DelayedReq.node?, show cmd.kind = .wr from hc.1, same m hc.2]
  | readRegs m a c => simp [DelayedReq.node?, show cmd.kind = .rd from hc.1, same m hc.2]
  | readBlock m a c => simp [DelayedReq.node?, show cmd.kind = .rd from hc.1, same m hc.2]
  | barrier => exact hc.elim

end Commands

section Outcomes

variable (u : State) (i : SlotId) {sl : Slot} {cmd : Command} {n : NodeId} (hc : CommandFor sl.req cmd)
  (ht : cmd.target = .node n)

include hc ht in
/-- NO_RESPONSE completes the slot when the node is ABSENT then, which a PROBE always makes it; else it is a retry outcome
(R36, R39, R40, R112). -/
theorem activeOutcome_noResponse (hprobe : cmd.kind = .probe → (u.node n).presence = .absent) :
    u.activeOutcome i sl cmd .noResponse =
      if (u.node n).presence = .absent then u.completeWith i sl .nodeAbsent else u.slotRetry i sl true := by
  have habs := commandFor_reqAbsent hc ht u
  have hkind := commandFor_probe hc
  unfold State.activeOutcome
  simp only
  split
  · next m hreq => rw [if_pos (hprobe (hkind.mp ⟨m, hreq⟩))]
  · next hne =>
    have hk : cmd.kind ≠ .probe := fun hk => by
      obtain ⟨m, hreq⟩ := hkind.mpr hk
      exact hne m hreq
    unfold State.slotSilence
    by_cases ha : (u.node n).presence = .absent
    · rw [if_pos (habs.mpr ⟨hk, ha⟩), if_pos ha]
    · rw [if_neg fun h => ha (habs.mp h).2, if_neg ha]

include hc ht in
/-- The retry outcomes: WAIT clears the repeat pending mark, the others set it (R33, R39). -/
theorem activeOutcome_retry {o : SegOutcome} (hprobe : cmd.kind = .probe → o = .noResponse → (u.node n).presence = .absent)
    (ho : o = .wait ∨ o = .garbled ∨ o = .noResponse ∧ (u.node n).presence ≠ .absent) :
    u.activeOutcome i sl cmd o = u.slotRetry i sl (decide (o ≠ .wait)) := by
  rcases ho with rfl | rfl | ⟨rfl, hpresent⟩
  · rfl
  · rfl
  · rw [activeOutcome_noResponse u i hc ht fun hk => hprobe hk rfl, if_neg hpresent]; rfl

include hc in
theorem activeOutcome_refuse (r : Byte) (hk : cmd.kind ≠ .probe) :
    u.activeOutcome i sl cmd (.refuse r) = u.completeWith i sl (.refused r) := by
  unfold State.activeOutcome
  simp only
  split
  · next m hreq => exact absurd ((commandFor_probe hc).mp ⟨m, hreq⟩) hk
  · rfl

include hc in
theorem activeOutcome_ident (bytes : List Byte) (hk : cmd.kind = .probe) :
    u.activeOutcome i sl cmd (.ident bytes) = u.completeWith i { sl with data := bytes } .ok := by
  obtain ⟨m, hreq⟩ := (commandFor_probe hc).mpr hk
  unfold State.activeOutcome
  simp only
  rw [hreq]

theorem activeOutcome_ack {a : Half} {d : List Byte} (hreq : sl.req = .confirmWrite n a d) :
    u.activeOutcome i sl cmd .ack =
      u.slotAdvance i { sl with bytesDelivered := sl.bytesDelivered + cmd.length, attempts := 0, repeatPending := false }
        (sl.bytesDelivered + cmd.length == d.length) := by
  unfold State.activeOutcome
  simp only
  rw [hreq]

theorem activeOutcome_data_readRegs {a : Half} {c : Nat} (bytes : List Byte) (hreq : sl.req = .readRegs n a c) :
    u.activeOutcome i sl cmd (.data bytes) =
      u.slotAdvance i { sl with data := sl.data ++ bytes, bytesReceived := sl.bytesReceived + bytes.length, attempts := 0,
                                repeatPending := false }
        (sl.bytesReceived + bytes.length == c) := by
  unfold State.activeOutcome
  simp only
  rw [hreq]

theorem activeOutcome_data_readBlock {a : Half} {c : Nat} (bytes : List Byte) (hreq : sl.req = .readBlock n a c) :
    u.activeOutcome i sl cmd (.data bytes) =
      u.slotAdvance i { sl with data := sl.data ++ bytes, fetchCursor := sl.fetchCursor + bytes.length, attempts := 0,
                                repeatPending := false, dataStamp := u.notices.newest }
        (sl.fetchCursor + bytes.length == c) := by
  unfold State.activeOutcome
  simp only
  rw [hreq]

end Outcomes

/-- With bytes left the slot stays ACTIVE, idle between packets (R38, R52). -/
theorem advanced_at_end {u : State} (i : SlotId) {r : Slot} (ha : r.state = .active) (hp : u.reqAbsent r.req = false) :
    (released (u.slotAdvance i r false)).slot i = some r ∧
      (released (u.slotAdvance i r false)).notices.newest = u.notices.newest := by
  have hadvance : u.slotAdvance i r false = u.setSlot i (some r) := rfl
  rw [hadvance]
  exact ⟨released_slot_of_active (slot_set_self u i _ _) ha hp, released_newest _⟩

theorem slotAdvance_true (u : State) (i : SlotId) (r : Slot) : u.slotAdvance i r true = u.completeWith i r .ok := rfl

end Sys2Proof.DelayedRequests
end

section
/-!
A slot through the event that ends its transaction, from the state before it to the state after the decisions.
-/

namespace Sys2Proof.DelayedRequests

open Sys2Proof.Machine Sys2Proof.Safety Sys2Proof.Laws Sys2Proof.PostedWrites

/-- The state at the end of the event that delivers this outcome to slot i (R81). -/
def slotEnd (s : State) (i : SlotId) (cmd : Command) (o : SegOutcome) : State :=
  released ((beforeSlot s cmd o).slotOutcome i cmd o)

theorem exec_slotEnd {s : State} {x : Transaction} {i : SlotId} {c : Instr} {o : SegOutcome} (h : Ends s x c o)
    (hr : x.requester = .d i) : ∃ k : Counters, exec c s = .next (slotEnd { s with counters := k } i x.cmd o) := by
  obtain ⟨k, -, hexec⟩ := exec_of_ends h
  rw [deliver_to_slot o hr] at hexec
  exact ⟨k, hexec⟩

theorem slotEnd_node (s : State) (i : SlotId) {cmd : Command} {n : NodeId} (o : SegOutcome) (ht : cmd.target = .node n) :
    (slotEnd s i cmd o).node n = (s.node n).take cmd.kind s.params.silenceLimit o := by
  unfold slotEnd
  rw [node_congr (decisionKeeps_released _).nodes, node_congr (State.slotOutcome_nodes _ i cmd o), beforeSlot_node o ht]

theorem beforeSlot_node_eq_slotEnd (s : State) (i : SlotId) {cmd : Command} {n : NodeId} (o : SegOutcome)
    (ht : cmd.target = .node n) : (beforeSlot s cmd o).node n = (slotEnd s i cmd o).node n := by
  rw [beforeSlot_node o ht, slotEnd_node s i o ht]

/-- No PROBE is answered REFUSE, and only a PROBE is answered IDENT (R94). -/
theorem kind_of_ends {s : State} {x : Transaction} {c : Instr} {o : SegOutcome} (h : Ends s x c o) :
    match o with
    | .refuse _ => x.cmd.kind ≠ .probe
    | .ident _ => x.cmd.kind = .probe
    | _ => True := by
  obtain ⟨-, -, ⟨-, -, rfl⟩ | ⟨-, -, rfl⟩ | ⟨-, rfl, -⟩ | ⟨-, code, content, chars, -, -, hp⟩⟩ := h
  · trivial
  · trivial
  · trivial
  · rcases hp with ⟨-, -, -, rfl⟩ | ⟨-, -, -, -, -, rfl⟩ | ⟨-, -, -, rfl⟩ | ⟨-, hk, r, -, -, -, rfl⟩ |
      ⟨-, -, head, c, data, -, -, -, rfl⟩ | ⟨-, -, -, rfl⟩ | ⟨-, hk, -, rfl⟩
    · trivial
    · trivial
    · trivial
    · show x.cmd.kind ≠ .probe
      rcases hk with hk | hk | hk <;> rw [hk] <;> decide
    · trivial
    · trivial
    · exact hk

theorem not_waitingBarrier {sl : Slot} (h : sl.state ≠ .waiting) : ¬WaitingBarrier sl := fun hw => h hw.2

theorem reqAbsent_of_present {u : State} {req : DelayedReq} {n : NodeId} (hn : req.node? = some n)
    (h : (u.node n).presence = .present) : u.reqAbsent req = false := by
  rw [Bool.eq_false_iff, ne_eq, reqAbsent_iff]
  rintro ⟨m, hm, -, habsent⟩
  rw [hn] at hm
  cases hm
  rw [h] at habsent
  cases habsent

/-! ### ORPHANED -/

theorem slotEnd_of_orphaned {s : State} {i : SlotId} {sl : Slot} (cmd : Command) (o : SegOutcome)
    (hs : s.slot i = some sl) (h : sl.state = .orphaned) :
    (slotEnd s i cmd o).slot i = none ∧ i ∉ (slotEnd s i cmd o).drt.order ∧ i ∉ (slotEnd s i cmd o).notices.ready ∧
      (HeadChecked s → o ≠ .noResponse → contents (slotEnd s i cmd o).notices = contents s.notices) := by
  have hb : ¬WaitingBarrier sl := not_waitingBarrier (by rw [h]; decide)
  obtain ⟨stamp, hslot⟩ := beforeSlot_slot_stamp cmd o hs hb
  have hfreed : slotEnd s i cmd o = released ((beforeSlot s cmd o).freeSlot i) := by
    unfold slotEnd
    rw [slotOutcome_of_orphaned cmd o hslot h]
  rw [hfreed]
  obtain ⟨hnone, horder, hready, hcontents⟩ := freed_at_end (beforeSlot s cmd o) i
  refine ⟨hnone, horder, hready, fun hhead ho => ?_⟩
  rw [hcontents, beforeSlot_of_headChecked hhead ho, State.nodeOutcome_notices]

/-! ### ACTIVE -/

section Active

variable {s : State} {i : SlotId} {sl : Slot} {cmd : Command} {n : NodeId} (hs : s.slot i = some sl)
  (ha : sl.state = .active) (hc : CommandFor sl.req cmd) (ht : cmd.target = .node n)

include hs ha

/-- The slot takes the outcome with its record as it was but for the stamp. -/
theorem slotEnd_of_active (o : SegOutcome) : ∃ stamp, slotEnd s i cmd o =
    released ((beforeSlot s cmd o).activeOutcome i { sl with postingStamp := stamp } cmd o) := by
  have hb : ¬WaitingBarrier sl := not_waitingBarrier (by rw [ha]; decide)
  obtain ⟨stamp, hslot⟩ := beforeSlot_slot_stamp cmd o hs hb
  refine ⟨stamp, ?_⟩
  unfold slotEnd
  rw [slotOutcome_of_active cmd o hslot ha]

/-- The same when the slot waited for no posted write. -/
theorem slotEnd_of_active_clear (o : SegOutcome) (hp : sl.postingStamp = none) :
    slotEnd s i cmd o = released ((beforeSlot s cmd o).activeOutcome i sl cmd o) := by
  have hb : ¬WaitingBarrier sl := not_waitingBarrier (by rw [ha]; decide)
  unfold slotEnd
  rw [slotOutcome_of_active cmd o (beforeSlot_slot cmd o hs hb hp) ha]

include hc

/-- REFUSE, which no PROBE is answered (R40, R94). -/
theorem slotEnd_refuse (r : Byte) (hk : cmd.kind ≠ .probe) :
    CompletedAs s (slotEnd s i cmd (.refuse r)) i sl (.refused r) := by
  obtain ⟨stamp, hend⟩ := slotEnd_of_active (cmd := cmd) hs ha (.refuse r)
  rw [hend, activeOutcome_refuse (sl := { sl with postingStamp := stamp }) _ i hc r hk]
  exact completedAs_released i _ ⟨rfl, rfl, rfl, rfl, rfl, rfl, rfl⟩ (beforeSlot_params s cmd _)

/-- IDENT completes a PROBE_NODE with the identity (R36). -/
theorem slotEnd_ident (bytes : List Byte) (hk : cmd.kind = .probe) :
    CompletedAs s (slotEnd s i cmd (.ident bytes)) i { sl with data := bytes } .ok := by
  obtain ⟨stamp, hend⟩ := slotEnd_of_active (cmd := cmd) hs ha (.ident bytes)
  rw [hend, activeOutcome_ident (sl := { sl with postingStamp := stamp }) _ i hc bytes hk]
  exact completedAs_released i _ ⟨rfl, rfl, rfl, rfl, rfl, rfl, rfl⟩ (beforeSlot_params s cmd _)

include ht

/-- WAIT, GARBLED, and NO_RESPONSE from a node that is not ABSENT (R39, R53). -/
theorem slotEnd_retry {o : SegOutcome}
    (ho : o = .wait ∨ o = .garbled ∨ o = .noResponse ∧ ((slotEnd s i cmd o).node n).presence ≠ .absent) :
    (sl.attempts + 1 < s.params.attemptLimit →
      (slotEnd s i cmd o).drt.order.getLast? = some i ∧
      ∃ r : Slot, (slotEnd s i cmd o).slot i = some r ∧ r.state = .waiting ∧ r.req = sl.req ∧ r.notify = sl.notify ∧
        r.attempts = sl.attempts + 1 ∧ r.repeatPending = decide (o ≠ .wait) ∧ r.gap = some s.params.retryGap ∧
        r.bytesDelivered = sl.bytesDelivered ∧ r.bytesReceived = sl.bytesReceived ∧ r.data = sl.data ∧
        r.fetchCursor = sl.fetchCursor ∧ r.deliveryCursor = sl.deliveryCursor) ∧
      (s.params.attemptLimit ≤ sl.attempts + 1 → CompletedAs s (slotEnd s i cmd o) i sl .retryExhausted) := by
  rw [← beforeSlot_node_eq_slotEnd s i o ht] at ho
  have hprobe : cmd.kind = .probe → o = .noResponse → ((beforeSlot s cmd o).node n).presence = .absent := by
    intro hk hno
    rw [beforeSlot_node o ht, hno, hk]
    simp [NodeRecord.take]
  have hparams := beforeSlot_params s cmd o
  obtain ⟨stamp, hend⟩ := slotEnd_of_active (cmd := cmd) hs ha o
  rw [activeOutcome_retry (sl := { sl with postingStamp := stamp }) (beforeSlot s cmd o) i hc ht hprobe ho] at hend
  rw [hend]
  refine ⟨fun hlt => ?_, fun hle => ?_⟩
  · obtain ⟨hlast, hslot⟩ := slotRetry_at_end_of_lt (u := beforeSlot s cmd o) i (sl := { sl with postingStamp := stamp })
      (decide (o ≠ .wait)) (by rw [hparams]; exact hlt)
    exact ⟨hlast, _, hslot, rfl, rfl, rfl, rfl, rfl, by rw [hparams]; rfl, rfl, rfl, rfl, rfl, rfl⟩
  · rw [slotRetry_of_le i (sl := { sl with postingStamp := stamp }) _ (by rw [hparams]; exact hle)]
    exact completedAs_released i _ ⟨rfl, rfl, rfl, rfl, rfl, rfl, rfl⟩ hparams

/-- NO_RESPONSE from a node that is then ABSENT (R36, R40). -/
theorem slotEnd_absent (habsent : ((slotEnd s i cmd .noResponse).node n).presence = .absent) :
    CompletedAs s (slotEnd s i cmd .noResponse) i sl .nodeAbsent := by
  rw [← beforeSlot_node_eq_slotEnd s i _ ht] at habsent
  obtain ⟨stamp, hend⟩ := slotEnd_of_active (cmd := cmd) hs ha .noResponse
  rw [hend, activeOutcome_noResponse (sl := { sl with postingStamp := stamp }) _ i hc ht fun _ => habsent,
    if_pos habsent]
  exact completedAs_released i _ ⟨rfl, rfl, rfl, rfl, rfl, rfl, rfl⟩ (beforeSlot_params s cmd _)

omit hc in
/-- ACK counts the bytes of a CONFIRM_WRITE's packet (R38). -/
theorem slotEnd_ack {a : Half} {d : List Byte} (hreq : sl.req = .confirmWrite n a d) :
    (sl.bytesDelivered + cmd.length = d.length →
      CompletedAs s (slotEnd s i cmd .ack) i { sl with bytesDelivered := sl.bytesDelivered + cmd.length } .ok) ∧
    (sl.bytesDelivered + cmd.length < d.length →
      ∃ r : Slot, (slotEnd s i cmd .ack).slot i = some r ∧ r.state = .active ∧ r.req = sl.req ∧ r.attempts = 0 ∧
        r.repeatPending = false ∧ r.bytesDelivered = sl.bytesDelivered + cmd.length) := by
  obtain ⟨stamp, hend⟩ := slotEnd_of_active (cmd := cmd) hs ha .ack
  rw [activeOutcome_ack (sl := { sl with postingStamp := stamp }) _ i hreq] at hend
  rw [hend]
  refine ⟨fun hwhole => ?_, fun hleft => ?_⟩
  · rw [show (sl.bytesDelivered + cmd.length == d.length) = true by simpa using hwhole, slotAdvance_true]
    exact completedAs_released i _ ⟨rfl, rfl, rfl, rfl, rfl, rfl, rfl⟩ (beforeSlot_params s cmd _)
  · rw [show (sl.bytesDelivered + cmd.length == d.length) = false by simpa using hleft.ne]
    have hpresent : (beforeSlot s cmd .ack).reqAbsent sl.req = false :=
      reqAbsent_of_present (n := n) (by rw [hreq]; rfl) (by rw [beforeSlot_node .ack ht]; rfl)
    exact ⟨_, (advanced_at_end i (by exact ha) (by exact hpresent)).1, ha, rfl, rfl, rfl, rfl⟩

end Active

/-! ### DATA (R38, R52) -/

section Data

variable {s : State} {i : SlotId} {sl : Slot} {cmd : Command} {n : NodeId} {a : Half} {c : Nat} (bytes : List Byte)
  (hs : s.slot i = some sl) (ha : sl.state = .active) (hp : sl.postingStamp = none) (ht : cmd.target = .node n)

include hs ha hp ht

/-- The bytes of a READ_REGS: ACTIVE while some are missing, COMPLETE with the last (R38, R41). -/
theorem slotEnd_data_readRegs (hreq : sl.req = .readRegs n a c) :
    (sl.bytesReceived + bytes.length < c → (slotEnd s i cmd (.data bytes)).slot i =
      some { sl with data := sl.data ++ bytes, bytesReceived := sl.bytesReceived + bytes.length, attempts := 0,
                     repeatPending := false }) ∧
    (sl.bytesReceived + bytes.length = c →
      ∃ r : Slot, (slotEnd s i cmd (.data bytes)).slot i = some r ∧ r.state = .complete ∧ r.result = some .ok ∧
        r.data = sl.data ++ bytes ∧ r.bytesReceived = c ∧
        r.dataStamp = (slotEnd s i cmd (.data bytes)).notices.newest ∧ i ∉ (slotEnd s i cmd (.data bytes)).drt.order ∧
        r.discard = (if s.params.discardTime = 0 then none else some s.params.discardTime)) := by
  have hpresent : (beforeSlot s cmd (.data bytes)).reqAbsent sl.req = false :=
    reqAbsent_of_present (n := n) (by rw [hreq]; rfl) (by rw [beforeSlot_node _ ht]; rfl)
  rw [slotEnd_of_active_clear hs ha _ hp, activeOutcome_data_readRegs _ i bytes hreq]
  refine ⟨fun hlt => ?_, fun heq => ?_⟩
  · rw [show (sl.bytesReceived + bytes.length == c) = false by simpa using hlt.ne]
    exact (advanced_at_end i (by exact ha) (by exact hpresent)).1
  · rw [show (sl.bytesReceived + bytes.length == c) = true by simpa using heq, slotAdvance_true]
    obtain ⟨hslot, horder, hnewest⟩ := completed_at_end (beforeSlot s cmd (.data bytes)) i
      { sl with data := sl.data ++ bytes, bytesReceived := sl.bytesReceived + bytes.length, attempts := 0,
                repeatPending := false } .ok
    exact ⟨_, hslot, rfl, rfl, rfl, heq, hnewest.symm, horder, by rw [← beforeSlot_params s cmd (.data bytes)]; rfl⟩

/-- The bytes of a READ_BLOCK: each DATA sets the data notice stamp anew (R52, R66). -/
theorem slotEnd_data_readBlock (hreq : sl.req = .readBlock n a c) :
    ∃ r : Slot, (slotEnd s i cmd (.data bytes)).slot i = some r ∧ r.data = sl.data ++ bytes ∧
      r.fetchCursor = sl.fetchCursor + bytes.length ∧ r.deliveryCursor = sl.deliveryCursor ∧
      r.dataStamp = (slotEnd s i cmd (.data bytes)).notices.newest ∧ r.attempts = 0 ∧
      (sl.fetchCursor + bytes.length < c → r.state = .active) ∧
      (sl.fetchCursor + bytes.length = c → r.state = .complete ∧ r.result = some .ok) := by
  have hpresent : (beforeSlot s cmd (.data bytes)).reqAbsent sl.req = false :=
    reqAbsent_of_present (n := n) (by rw [hreq]; rfl) (by rw [beforeSlot_node _ ht]; rfl)
  rw [slotEnd_of_active_clear hs ha _ hp, activeOutcome_data_readBlock _ i bytes hreq]
  by_cases heq : sl.fetchCursor + bytes.length = c
  · rw [show (sl.fetchCursor + bytes.length == c) = true by simpa using heq, slotAdvance_true]
    obtain ⟨hslot, -, hnewest⟩ := completed_at_end (beforeSlot s cmd (.data bytes)) i
      { sl with data := sl.data ++ bytes, fetchCursor := sl.fetchCursor + bytes.length, attempts := 0,
                repeatPending := false, dataStamp := (beforeSlot s cmd (.data bytes)).notices.newest } .ok
    exact ⟨_, hslot, rfl, rfl, rfl, hnewest.symm, rfl, fun hlt => absurd heq hlt.ne, fun _ => ⟨rfl, rfl⟩⟩
  · rw [show (sl.fetchCursor + bytes.length == c) = false by simpa using heq]
    obtain ⟨hslot, hnewest⟩ := advanced_at_end (u := beforeSlot s cmd (.data bytes)) i
      (r := { sl with data := sl.data ++ bytes, fetchCursor := sl.fetchCursor + bytes.length, attempts := 0,
                      repeatPending := false, dataStamp := (beforeSlot s cmd (.data bytes)).notices.newest }) ha hpresent
    exact ⟨_, hslot, rfl, rfl, rfl, hnewest.symm, rfl, fun _ => ha, fun h => absurd h heq⟩

end Data

/-- Of the state before the event, a completion reads DISCARD_TIME alone (R41). -/
theorem completedAs_congr {s u t : State} {i : SlotId} {sl : Slot} {st : ResultStatus} (hp : u.params = s.params)
    (h : CompletedAs u t i sl st) : CompletedAs s t i sl st := by
  unfold CompletedAs at h ⊢
  rwa [hp] at h

/-- Settles O42, outcome by outcome. -/
theorem dataReachesSlot : Obligations.DataReachesSlot := by
  refine ⟨fun s x i sl n a c content chars hi hr hk ht hs ha hp h₁ h₂ hlen hchars => ?_,
    fun s x i sl n c o hends hr ht hs => ?_⟩
  · obtain ⟨hh, hx, hphase⟩ := hi
    have hends : Ends s x (.responseEnd chars) (.data content) :=
      ⟨hh, hx, .inr (.inr (.inr ⟨hphase, 0x82, content, chars, rfl, hchars, .inr (.inl ⟨rfl, hk, h₁, h₂, hlen.symm, rfl⟩)⟩))⟩
    obtain ⟨k, hexec⟩ := exec_slotEnd hends hr
    have hs' : State.slot { s with counters := k } i = some sl := hs
    have hparams : ({ s with counters := k } : State).params = s.params := rfl
    generalize ({ s with counters := k } : State) = u at hexec hs' hparams
    rw [← hparams]
    have hnode := slotEnd_node u i (.data content) ht
    refine ⟨_, hexec, ?_, ?_, fun hreq => (slotEnd_data_readRegs content hs' ha hp ht hreq).1,
      fun hreq => (slotEnd_data_readRegs content hs' ha hp ht hreq).2,
      fun hreq _ => slotEnd_data_readBlock content hs' ha hp ht hreq⟩
    · rw [hnode]; rfl
    · rw [hnode]; rfl
  · obtain ⟨k, hexec⟩ := exec_slotEnd hends hr
    have hs' : State.slot { s with counters := k } i = some sl := hs
    have hparams : ({ s with counters := k } : State).params = s.params := rfl
    have hnotices : ({ s with counters := k } : State).notices = s.notices := rfl
    have hhead : HeadChecked s → HeadChecked { s with counters := k } := id
    generalize ({ s with counters := k } : State) = u at hexec hs' hparams hnotices hhead
    refine ⟨_, hexec, fun ho => ?_, fun ha hc => ⟨fun ho => ?_, fun r ho => ?_, fun ho habsent => ?_, fun bytes ho => ?_,
      fun a d ho hreq => ?_⟩⟩
    · obtain ⟨hfree, horder, hready, hcontents⟩ := slotEnd_of_orphaned x.cmd o hs' ho
      rw [← hnotices]
      exact ⟨hfree, horder, hready, fun h => hcontents (hhead h)⟩
    · obtain ⟨hlt, hle⟩ := slotEnd_retry hs' ha hc ht ho
      rw [← hparams]
      exact ⟨hlt, fun h => completedAs_congr hparams (hle h)⟩
    · subst ho
      exact completedAs_congr hparams (slotEnd_refuse hs' ha hc r (kind_of_ends hends))
    · subst ho
      exact completedAs_congr hparams (slotEnd_absent hs' ha hc ht habsent)
    · subst ho
      exact completedAs_congr hparams (slotEnd_ident hs' ha hc bytes (kind_of_ends hends))
    · subst ho
      obtain ⟨hwhole, hleft⟩ := slotEnd_ack hs' ha ht hreq
      exact ⟨fun h => completedAs_congr hparams (hwhole h), hleft⟩

end Sys2Proof.DelayedRequests
end

section
/-!
A READ_BLOCK hands over its bytes while it still runs: the repeat of a WAITING or ACTIVE slot that holds undelivered bytes.
-/

namespace Sys2Proof.BlockReads

open Sys2Proof.Machine Sys2Proof.Safety Sys2Proof.Laws Sys2Proof.PostedWrites Sys2Proof.DelayedRequests

/-! ### Undelivered bytes (R50, R55) -/

/-- Only a READ_BLOCK hands bytes over before it is COMPLETE. -/
theorem undelivered_iff (sl : Slot) :
    sl.undelivered = true ↔ sl.req.kind = .readBlock ∧ sl.deliveryCursor < sl.fetchCursor := by
  unfold Slot.undelivered
  cases sl.req <;> simp [DelayedReq.kind]

/-- A buffer that ends at the fetch cursor holds no byte past it, so PARTIAL carries all that follows the delivery
cursor. -/
theorem partialAnswer_of_full (s : State) (i : SlotId) {sl : Slot} (hlen : sl.data.length = sl.fetchCursor) :
    s.partialAnswer i sl =
      (s.setSlot i (some { sl with deliveryCursor := sl.fetchCursor }),
        .partialData i sl.state sl.deliveryCursor (sl.data.drop sl.deliveryCursor)) := by
  unfold State.partialAnswer
  rw [List.take_of_length_le hlen.le]

/-! ### The repeat (R56, R69) -/

theorem live_of_running {sl : Slot} (hr : Running sl) : sl.state.live = true := by
  rcases hr with h | h <;> rw [h] <;> rfl

theorem repeatAnswer_of_undelivered {s : State} {i : SlotId} {sl : Slot} (hs : s.slot i = some sl) (hr : Running sl)
    (hu : sl.undelivered = true) : s.repeatAnswer i =
      if sl.dataStamp = .clear then s.partialAnswer i sl else (s, .deferred i sl.state .order) := by
  have hrun : s.repeatAnswer i = s.runningAnswer i sl := by
    unfold State.repeatAnswer
    rw [hs]
    rcases hr with h | h <;> simp only [h]
  rw [hrun]
  unfold State.runningAnswer
  rw [if_pos hu]

/-- Settles O14, by the data notice stamp. -/
theorem partialHandsOverBytes : Obligations.PartialHandsOverBytes := by
  intro s seq payload n a k notify i sl hops hx hk hs hreq hr hcursor hlen
  have hrow : ((.readBlock seq payload, 0x12, readBlockOperands payload) :
      Instr × Byte × Option (DelayedReq × Bool)) ∈ delayedRows seq payload := by simp [delayedRows, nodeRequestRows]
  have hu : sl.undelivered = true := (undelivered_iff sl).mpr ⟨by rw [hreq]; rfl, hcursor⟩
  have hexec := exec_delayedRow hrow hops hx
  rw [takeDelayed_of_match notify hk hs (live_of_running hr) hreq, repeatAnswer_of_undelivered hs hr hu] at hexec
  refine ⟨fun hclear => ?_, fun m hheld => ?_⟩
  · rw [hexec, if_pos hclear, partialAnswer_of_full s i hlen]; rfl
  · rw [hexec, if_neg (by rw [hheld]; simp)]

end Sys2Proof.BlockReads
end

section
/-!
The form of the segment's state is kept by every step. It is read off Segment Control, SEG_RST, the transaction and the
members of the attention set alone, so an operation either leaves these as they are, decides, or is one of the few that
change them: the entry into a segment state, the phases of a transaction and its delivery.
-/

namespace Sys2Proof.SegmentScheduling

open Sys2Proof.Machine Sys2Proof.Safety Sys2Proof.Laws Sys2Proof.PostedWrites

/-- The deadlines, SEG_RST and the transaction are true to the segment state, and so is the attention set (R73, R85, R102 to
R104, R140). -/
def SegmentForm (s : State) : Prop := SegmentOk s ∧ AttentionOk s

namespace SegmentForm

variable {s t : State}

/-! ### What the form says in each segment state -/

theorem txn_none (h : SegmentForm s) (hr : s.seg.state ≠ .running) : s.engine.txn = none := by
  obtain ⟨⟨-, -, -, htxn, -⟩, -⟩ := h
  cases hx : s.engine.txn with
  | none => rfl
  | some x => exact absurd (htxn (by rw [hx]; rfl)) hr

theorem running_of_txn (h : SegmentForm s) {x : Transaction} (hx : s.engine.txn = some x) : s.seg.state = .running := by
  obtain ⟨⟨-, -, -, htxn, -⟩, -⟩ := h
  exact htxn (by rw [hx]; rfl)

theorem members_nil (h : SegmentForm s) (hr : s.seg.state ≠ .running) : s.attn.members = [] :=
  h.2.resolve_left hr

/-- The hold deadline runs in RESETTING alone (R102). -/
theorem resetting_of_hold (h : SegmentForm s) (hh : s.seg.hold.isSome = true) : s.seg.state = .resetting := by
  obtain ⟨⟨hhold, -⟩, -⟩ := h
  rw [hh] at hhold
  exact beq_iff_eq.mp hhold.symm

/-- The settle deadline runs in SETTLING alone, where SEG_RST is released (R102, R104). -/
theorem settling_of_settle (h : SegmentForm s) (hs : s.seg.settle.isSome = true) :
    s.seg.state = .settling ∧ s.segRst = false := by
  obtain ⟨⟨-, hrst, hsettle, -⟩, -⟩ := h
  rw [hs] at hsettle
  have hstate : s.seg.state = .settling := beq_iff_eq.mp hsettle.symm
  exact ⟨hstate, by rw [hrst, hstate]; rfl⟩

/-! ### What keeps the form -/

/-- Segment Control and SEG_RST stay, a transaction is one that was under way and has the pair as rightly as before, and
outside RUNNING the attention set stays. -/
theorem of_control (h : SegmentForm s) (hseg : t.seg = s.seg) (hrst : t.segRst = s.segRst)
    (htxn : ∀ x : Transaction, t.engine.txn = some x → ∃ y : Transaction, s.engine.txn = some y ∧ (DrivenOk y → DrivenOk x))
    (hm : s.seg.state ≠ .running → t.attn.members = s.attn.members) : SegmentForm t := by
  have running : ∀ x : Transaction, t.engine.txn = some x → s.seg.state = .running := fun x hx => by
    obtain ⟨y, hy, -⟩ := htxn x hx
    exact h.running_of_txn hy
  obtain ⟨⟨hhold, hsegRst, hsettle, -, hdriven⟩, hattn⟩ := h
  refine ⟨⟨by rw [hseg, hhold], by rw [hseg, hrst, hsegRst], by rw [hseg, hsettle], fun hx => ?_, fun x hx => ?_⟩, ?_⟩
  · obtain ⟨x, hx⟩ := Option.isSome_iff_exists.mp hx
    rw [hseg]; exact running x hx
  · obtain ⟨y, hy, hxy⟩ := htxn x hx
    exact hxy (hdriven y hy)
  · unfold AttentionOk
    rw [hseg]
    by_cases hr : s.seg.state = .running
    · exact .inl hr
    · exact .inr ((hm hr).trans (hattn.resolve_left hr))

/-- An update of other blocks. -/
theorem aside (h : SegmentForm s) (hseg : t.seg = s.seg) (hrst : t.segRst = s.segRst) (heng : t.engine = s.engine)
    (hattn : t.attn.members = s.attn.members) : SegmentForm t :=
  h.of_control hseg hrst (fun x hx => ⟨x, by rw [← heng, hx], id⟩) fun _ => hattn

/-- A transaction that a decision starts has the pair unless the turnaround runs (R85, R89). -/
theorem schedule_drivenOk {x : Transaction} (hr : s.seg.state = .running) (ht : s.engine.txn = none)
    (hx : s.schedule.engine.txn = some x) : DrivenOk x := by
  obtain ⟨-, -, hidle, hwaits⟩ := schedule_record hr ht hx
  unfold DrivenOk
  by_cases hn : s.engine.turnaround = none
  · obtain ⟨hphase, hdriven, -⟩ := hidle hn
    rw [hdriven, if_pos hphase]
  · obtain ⟨hphase, hdriven, -⟩ := hwaits hn
    rw [hdriven, if_neg (by rw [hphase]; decide)]

/-- A decision is made in RUNNING alone (R73). -/
theorem schedule (h : SegmentForm s) : SegmentForm s.schedule := by
  by_cases hidle : s.seg.state = .running ∧ s.engine.txn = none
  · obtain ⟨hr, ht⟩ := hidle
    obtain ⟨⟨hhold, hsegRst, hsettle, -, -⟩, -⟩ := h
    have hr' : s.schedule.seg.state = .running := by rw [State.schedule_seg, hr]
    refine ⟨⟨?_, ?_, ?_, fun _ => hr', fun x hx => schedule_drivenOk hr ht hx⟩, .inl hr'⟩
    · rw [State.schedule_seg, hhold]
    · rw [State.schedule_seg, State.schedule_segRst, hsegRst]
    · rw [State.schedule_seg, hsettle]
  · unfold State.schedule
    rw [if_neg hidle]; exact h

/-- The grant is released in RUNNING, whatever the end of the transaction has done to the attention set (R81). -/
theorem release (h : SegmentForm s) (hr : s.seg.state = .running) (hseg : t.seg = s.seg) (hrst : t.segRst = s.segRst) :
    SegmentForm t.release :=
  h.of_control hseg hrst (fun _ hx => by cases hx) fun hn => absurd hr hn

/-! ### The end of a transaction (R81, R97, R99) -/

theorem deliver (h : SegmentForm s) {x : Transaction} (o : SegOutcome) (hx : s.engine.txn = some x) :
    SegmentForm (s.deliver x o) := by
  unfold State.deliver
  exact (h.release (h.running_of_txn hx) (by simp) (by simp)).schedule

theorem windowEnds (h : SegmentForm s) {x : Transaction} (hx : s.engine.txn = some x) : SegmentForm (s.windowEnds x) := by
  unfold State.windowEnds
  refine (h.release (h.running_of_txn hx) ?_ ?_).schedule <;> split <;> simp

theorem trainEnds (h : SegmentForm s) {x : Transaction} (starts : List TrainStart) (hx : s.engine.txn = some x) :
    SegmentForm (s.trainEnds starts) := by
  unfold State.trainEnds
  exact (h.release (h.running_of_txn hx) (by simp) (by simp)).schedule

/-! ### The states of the segment (R102 to R106) -/

theorem enterResetting (s : State) (cause : RestartCause) : SegmentForm (s.enterResetting cause) := by
  obtain ⟨hseg, hrst, heng, -⟩ := enterResetting_control s cause
  refine ⟨⟨?_, ?_, ?_, fun hx => ?_, fun x hx => ?_⟩, .inr rfl⟩
  · rw [hseg]; rfl
  · rw [hseg, hrst]; rfl
  · rw [hseg]; rfl
  · rw [heng] at hx; cases hx
  · rw [heng] at hx; cases hx

theorem segmentReset (h : SegmentForm s) : SegmentForm s.segmentReset := by
  unfold State.segmentReset
  split
  · exact enterResetting s _
  · exact enterResetting s _
  · next hr =>
    obtain ⟨⟨-, hrst, hsettle, htxn, hdriven⟩, hattn⟩ := h
    exact ⟨⟨by rw [hr]; rfl, hrst, hsettle, htxn, hdriven⟩, hattn⟩

/-- From RESETTING the segment comes to SETTLING (R104). -/
theorem releaseSegment (h : SegmentForm s) (hr : s.seg.state = .resetting) : SegmentForm s.releaseSegment := by
  have hne : s.seg.state ≠ .running := by rw [hr]; decide
  have htxn : s.releaseSegment.engine.txn = none := h.txn_none hne
  refine ⟨⟨rfl, rfl, rfl, fun hx => ?_, fun x hx => ?_⟩, .inr (h.members_nil hne)⟩
  · rw [htxn] at hx; cases hx
  · rw [htxn] at hx; cases hx

/-- From SETTLING the segment comes to RUNNING, and the first decision is made (R105). -/
theorem enterRunning (h : SegmentForm s) (hs : s.seg.settle.isSome = true) : SegmentForm s.enterRunning := by
  obtain ⟨hstate, hrst⟩ := h.settling_of_settle hs
  have htxn : s.engine.txn = none := h.txn_none (by rw [hstate]; decide)
  unfold State.enterRunning
  apply schedule
  refine ⟨⟨rfl, hrst, rfl, fun _ => rfl, fun x hx => ?_⟩, .inl rfl⟩
  rw [show _ = none from htxn] at hx
  cases hx

theorem holdExpires (h : SegmentForm s) (hh : s.seg.hold.isSome = true) : SegmentForm s.holdExpires := by
  have settling := h.releaseSegment (h.resetting_of_hold hh)
  unfold State.holdExpires
  split
  · exact settling.enterRunning rfl
  · exact settling

theorem afterPartReset (cause : ResetCause) (lspd : BitVec 2) (level : Bool) (l : List Instr) :
    SegmentForm (State.afterPartReset cause lspd level l) := by
  refine ⟨⟨rfl, rfl, rfl, fun hx => ?_, fun x hx => ?_⟩, .inr rfl⟩ <;> cases hx

/-! ### Requests and deadlines that bring a decision (R77) -/

theorem acceptWrite (h : SegmentForm s) (target : Option NodeId) (addr : Half) (data : List Byte) (seq : Byte) :
    SegmentForm (s.acceptWrite target addr data seq).1 := by
  have appended : SegmentForm { s with pwq := s.pwq.append target addr data seq } := h.aside rfl rfl rfl rfl
  unfold State.acceptWrite
  simp only
  split
  · exact appended.schedule
  · exact appended

theorem fillAnswer (h : SegmentForm s) (i : SlotId) (req : DelayedReq) (notify : Bool) :
    SegmentForm (s.fillAnswer i req notify).1 := by
  have filled : SegmentForm (s.fillSlot i req notify) := h.aside rfl rfl rfl rfl
  unfold State.fillAnswer
  simp only
  split
  · split
    · exact filled.aside (by simp) (by simp) (by simp) (by simp)
    · exact filled
  · exact filled.schedule

theorem takeDelayed (h : SegmentForm s) (req : DelayedReq) (notify : Bool) : SegmentForm (s.takeDelayed req notify).1 := by
  unfold State.takeDelayed
  split
  · exact h.aside (by simp) (by simp) (by simp) (by simp)
  · split
    · exact h
    · split
      · exact h
      · next i _ => exact h.fillAnswer i req notify

theorem postWrite (h : SegmentForm s) (seq : Byte) (a : NodeId × Half × List Byte) : SegmentForm (s.postWrite seq a).1 := by
  unfold State.postWrite State.handOver
  split
  · split
    · exact h
    · exact h.takeDelayed _ _
  · split
    · exact h
    · split
      · exact h.acceptWrite _ _ _ seq
      · exact h

theorem broadcastWrite (h : SegmentForm s) (seq : Byte) (a : Half × List Byte) :
    SegmentForm (s.broadcastWrite seq a).1 := by
  unfold State.broadcastWrite
  split
  · exact h.acceptWrite _ _ _ seq
  · exact h

theorem removeNotices (h : SegmentForm s) (r : Nat) : SegmentForm (s.removeNotices r) := by
  have removed : SegmentForm { s with
      notices := s.notices.removeFirst r s.params.resendTime
      drt := s.drt.mapSlots (Slot.forgetNotices ((s.notices.queue.take r).map (·.number))) } := h.aside rfl rfl rfl rfl
  unfold State.removeNotices
  simp only
  split
  · exact removed.schedule
  · exact removed

theorem acknowledge (h : SegmentForm s) (n : Half) : SegmentForm (s.acknowledge n).1 := by
  unfold State.acknowledge
  simp only
  split
  · split
    · exact h.removeNotices _
    · exact h
  · split <;> exact h

theorem headGapEnds (h : SegmentForm s) : SegmentForm s.headGapEnds := by
  unfold State.headGapEnds
  split
  · exact h
  · split
    · exact schedule (h.aside (by simp) (by simp) (by simp) (by simp))
    · exact h
    · exact h

theorem slotGapEnds (h : SegmentForm s) (i : SlotId) : SegmentForm (s.slotGapEnds i) := by
  unfold State.slotGapEnds
  split
  · exact h
  · split
    · exact schedule (h.aside rfl rfl rfl rfl)
    · exact h

/-! ### The step -/

/-- The middle operations keep the form. -/
theorem kept : Kept SegmentForm where
  pendingFree _ _ h := h
  segAttnFree _ _ h := h
  arbitrate _ h := h.aside (by simp) (by simp) (by simp) (by simp)
  replayAnswer _ _ h := h
  giveAnswer _ _ _ _ _ h := h
  takeChar _ _ h := h.aside (by simp) (by simp) (by simp) (by simp)
  frameGap _ h := h.aside (by simp) (by simp) (by simp) (by simp)
  linkReset _ h := h
  partReset := afterPartReset
  frameSent _ _ _ _ _ h := h
  postWrite _ seq a h := h.postWrite seq a
  broadcastWrite _ seq a h := h.broadcastWrite seq a
  takeDelayed _ req notify h := h.takeDelayed req notify
  cancel _ _ h := h.aside (by simp) (by simp) (by simp) (by simp)
  acknowledge _ n h := h.acknowledge n
  setNode _ _ _ h := h
  storeParam _ _ _ _ h := h
  segmentReset _ h := h.segmentReset
  requestReset _ h := h
  schedule _ h := h.schedule
  holdExpires _ hh h := h.holdExpires hh
  enterRunning _ hs h := h.enterRunning hs
  engine _ _ htxn h := h.of_control rfl rfl htxn fun _ => rfl
  counters _ _ h := h
  deliver _ _ o hx h := h.deliver o hx
  windowEnds _ _ hx h := h.windowEnds hx
  trainEnds s starts hx h := by
    obtain ⟨x, hx⟩ := Option.isSome_iff_exists.mp hx
    exact h.trainEnds starts hx
  headGapEnds _ h := h.headGapEnds
  slotGapEnds _ i h := h.slotGapEnds i
  discardSlot _ _ _ _ _ h := h
  holdoffNone _ h := h
  rewind _ h := h

end SegmentForm

/-- Settles O58, operation by operation: a transaction is under way in RUNNING alone, and each entry into a segment state
writes the deadlines, SEG_RST and the attention set together. -/
theorem segmentFormKept : Obligations.SegmentFormKept :=
  fun s t hs ht => SegmentForm.kept.step s t hs ht

end Sys2Proof.SegmentScheduling
end

section
/-!
One decision of the scheduler: the candidates it finds, the grantee of R78 and the share counters of R79.
-/

namespace Sys2Proof.SegmentScheduling

open Sys2Proof.Machine Sys2Proof.Safety Sys2Proof.Laws Sys2Proof.PostedWrites

/-! ### The candidates at the decision (R74 to R76, R126) -/

theorem offered_sched (s : State) : (offered s).1.sched = s.sched := by
  unfold offered; rw [State.offerSlot_sched]; rfl

theorem offered_params (s : State) : (offered s).1.params = s.params := by
  unfold offered; rw [State.offerSlot_params]; rfl

theorem offered_seg (s : State) : (offered s).1.seg = s.seg := by
  unfold offered; rw [State.offerSlot_seg]; rfl

theorem offered_notices_queue (s : State) : (offered s).1.notices.queue = s.notices.queue := by
  unfold offered; rw [State.offerSlot_notices_queue]; rfl

theorem offered_candidateP (s : State) :
    (offered s).1.candidateP = true ↔ ∃ q : HeadedQueue, s.pwq.queue = some q ∧ q.headState = .ready := by
  rw [candidateP_iff, offered_pwq]

/-- Candidate D is the first slot looked at that no ABSENT node stops (R32, R75). -/
theorem offered_snd {s : State} (hr : s.seg.state = .running) (ht : s.engine.txn = none) :
    (offered s).2 = slotOffered s := by
  unfold slotOffered offered
  rw [← offerList_eq hr ht, offerSlot_snd, removeAbsentMembers_offerList]
  simp only [removeAbsentMembers_offerAbsent]

theorem offered_slot_isSome {s : State} {i : SlotId} (hd : (offered s).2 = some i) : ((offered s).1.slot i).isSome = true :=
  offerSlot_isSome _ _ (offerList_isSome s.removeAbsentMembers) i hd

/-- A FETCH is offered while a member can be fetched from (R126, R127). -/
theorem nextFetch_isSome_iff {s u : State} (h : MembersPresent s u) :
    u.nextFetch.isSome = true ↔ ∃ n : NodeId, FetchReady s n := by
  cases hn : u.nextFetch with
  | none =>
    refine iff_of_false (by simp) ?_
    rintro ⟨n, hready⟩
    exact nextFetch_none h hn n hready
  | some n => exact iff_of_true rfl ⟨n, (nextFetch_some h hn).1⟩

/-- No member is left when all are ABSENT (R126). -/
theorem members_isEmpty_iff {s u : State} (h : MembersPresent s u) :
    u.attn.members.isEmpty = true ↔ ∀ m ∈ s.attn.members, (s.node m.node).presence = .absent := by
  rw [h.members, List.isEmpty_iff, List.filter_eq_nil_iff]
  simp [State.absent]

theorem surveyReady_iff {s u : State} (h : MembersPresent s u) :
    (u.attn.members.isEmpty && u.segAttn && u.attn.holdoff.isNone) = true ↔ SurveyReady s := by
  rw [Bool.and_eq_true, Bool.and_eq_true, members_isEmpty_iff h, h.segAttn, h.holdoff, Option.isNone_iff_eq_none, and_assoc]
  rfl

/-- Collect work is offered: a FETCH, or else a SURVEY (R126). -/
theorem collectOffer_isSome_iff {s u : State} (h : MembersPresent s u) (hr : u.seg.state = .running) :
    u.collectOffer.isSome = true ↔ (∃ n : NodeId, FetchReady s n) ∨ SurveyReady s := by
  rw [← nextFetch_isSome_iff h, ← surveyReady_iff h]
  unfold State.collectOffer
  rw [if_neg (by rw [hr]; decide)]
  cases u.nextFetch with
  | some n => simp
  | none =>
    simp only
    split
    · next hs => simp [hs]
    · next hs => simp [hs]

/-- Candidate C (R76). -/
theorem offered_candidateC {s : State} (hr : s.seg.state = .running) :
    (offered s).1.candidateC.isSome = true ↔ CollectPresent s := by
  have hcollect := collectOffer_isSome_iff (offered_membersPresent s) (by rw [offered_seg, hr])
  unfold State.candidateC CollectPresent Config.collectGate
  rw [offered_notices_queue]
  split
  · next hgate => rw [hcollect, and_iff_right hgate]
  · next hgate => exact iff_of_false (by simp) fun hc => hgate hc.1

/-! ### The decision -/

/-- The requester a choice names, the slot being the DRT's candidate (R72). -/
def requesterOf (d : Option SlotId) : Choice → Option Requester
  | .p => some .p
  | .d => d.map Requester.d
  | .c => some .c

/-- The choice of the decision that s comes to (R78). -/
def choice (s : State) : Option Choice :=
  chooseGrant s.sched s.params (offered s).1.candidateP (slotOffered s).isSome (offered s).1.candidateC.isSome

/-- The grant and the share counters of a decision. -/
theorem schedule_choice {s : State} (hr : s.seg.state = .running) (ht : s.engine.txn = none) :
    s.schedule.engine.txn.map (·.requester) = (choice s).bind (requesterOf (slotOffered s)) ∧
      s.schedule.sched = ((choice s).map fun g =>
        s.sched.afterGrant g (slotOffered s).isSome (offered s).1.candidateC.isSome).getD s.sched := by
  have hspec := grantNext_spec (offered s).1 (offered s).2 (fun i => offered_slot_isSome) (by rw [offered_engine, ht])
  simp only [offered_sched, offered_params, offered_snd hr ht] at hspec
  rw [schedule_eq_grantNext hr ht, offered_snd hr ht]
  unfold choice
  generalize chooseGrant s.sched s.params (offered s).1.candidateP (slotOffered s).isSome
    (offered s).1.candidateC.isSome = g at hspec ⊢
  cases g with
  | none => exact hspec
  | some g => cases g <;> exact hspec

/-! ### The grant rule (R78) -/

section Rule

variable {sched : Scheduler} {params : Params} {p d c : Bool} {g : Choice}

theorem chooseGrant_of_collectShare (h : c = true ∧ params.collectShare ≤ sched.collectShare) :
    chooseGrant sched params p d c = some .c := by
  unfold chooseGrant
  rw [if_pos (by simp [h])]

theorem chooseGrant_of_delayedShare (hc : ¬(c = true ∧ params.collectShare ≤ sched.collectShare))
    (h : d = true ∧ params.delayedShare ≤ sched.delayedShare) : chooseGrant sched params p d c = some .d := by
  unfold chooseGrant
  rw [if_neg (by simpa using hc), if_pos (by simp [h])]

/-- With no share reached, the first present of P, D and C. -/
theorem chooseGrant_of_noShare (hc : ¬(c = true ∧ params.collectShare ≤ sched.collectShare))
    (hd : ¬(d = true ∧ params.delayedShare ≤ sched.delayedShare)) : chooseGrant sched params p d c =
      if p then some .p else if d then some .d else if c then some .c else none := by
  unfold chooseGrant
  rw [if_neg (by simpa using hc), if_neg (by simpa using hd)]

/-- A grant to P or D leaves C's share unreached. -/
theorem collectShare_of_chooseGrant (h : chooseGrant sched params p d c = some g) (hg : g ≠ .c) (hc : c = true) :
    sched.collectShare < params.collectShare := by
  by_contra hreached
  rw [chooseGrant_of_collectShare ⟨hc, by omega⟩] at h
  cases h
  exact hg rfl

/-- A grant to P leaves D's share unreached too. -/
theorem delayedShare_of_chooseGrant (h : chooseGrant sched params p d c = some .p) (hd : d = true) :
    sched.delayedShare < params.delayedShare := by
  have hc : ¬(c = true ∧ params.collectShare ≤ sched.collectShare) := fun hc => by
    rw [chooseGrant_of_collectShare hc] at h; cases h
  by_contra hreached
  rw [chooseGrant_of_delayedShare hc ⟨hd, by omega⟩] at h
  cases h

/-- Only a candidate is chosen. -/
theorem chooseGrant_eq_d (h : chooseGrant sched params p d c = some .d) : d = true := by
  cases d with
  | true => rfl
  | false =>
    unfold chooseGrant at h
    simp only [Bool.false_and, Bool.false_eq_true, if_false] at h
    split_ifs at h <;> cases h

/-- A counter rises only while it is below its share, so it stays within the greatest share (R79). -/
theorem afterGrant_le {n : Nat} (h : chooseGrant sched params p d c = some g) (hc : params.collectShare ≤ n)
    (hd : params.delayedShare ≤ n) (hsc : sched.collectShare ≤ n) (hsd : sched.delayedShare ≤ n) :
    (sched.afterGrant g d c).collectShare ≤ n ∧ (sched.afterGrant g d c).delayedShare ≤ n := by
  have collect : g ≠ .c → (if c then sched.collectShare + 1 else 0) ≤ n := by
    intro hg
    split
    · next hpresent => have := collectShare_of_chooseGrant h hg hpresent; omega
    · omega
  cases g with
  | p =>
    refine ⟨collect (by decide), ?_⟩
    show (if d then sched.delayedShare + 1 else 0) ≤ n
    split
    · next hpresent => have := delayedShare_of_chooseGrant h hpresent; omega
    · omega
  | d => exact ⟨collect (by decide), Nat.zero_le n⟩
  | c =>
    refine ⟨Nat.zero_le n, ?_⟩
    show (if d then sched.delayedShare else 0) ≤ n
    split <;> omega

end Rule

/-! ### The statements -/

/-- Settles O47, step by step of the rule. -/
theorem grantRule : Obligations.GrantRule := by
  intro s hr ht
  simp only [← offered_candidateP, ← offered_candidateC hr]
  rw [(schedule_choice hr ht).1]
  unfold choice
  refine ⟨fun hc => ?_, fun hc hd => ?_, fun hc hd => ?_⟩
  · rw [chooseGrant_of_collectShare hc]; rfl
  · rw [chooseGrant_of_delayedShare hc hd]; rfl
  · rw [chooseGrant_of_noShare hc hd]
    refine ⟨fun hp => ?_, fun hp hd => ?_, fun hp hd hc => ?_, fun hp hd hc => ?_⟩
    · rw [if_pos hp]; rfl
    · rw [if_neg hp, if_pos hd]; rfl
    · rw [if_neg hp, if_neg hd, if_pos hc]; rfl
    · rw [if_neg hp, if_neg hd, if_neg hc]; rfl

/-- Settles O48, by the grantee. -/
theorem shareCountersUpdate : Obligations.ShareCountersUpdate := by
  intro s hr ht
  obtain ⟨hgrant, hsched⟩ := schedule_choice hr ht
  simp only [← offered_candidateC hr]
  rw [hgrant, hsched]
  cases hg : choice s with
  | none => exact ⟨nofun, nofun, nofun, fun _ => rfl, fun _ _ hsc hsd => ⟨hsc, hsd⟩⟩
  | some g =>
    have bound := afterGrant_le (n := 32) hg
    cases g with
    | p => exact ⟨fun _ => ⟨(if_pos ·), (if_neg ·), (if_pos ·), (if_neg ·)⟩, nofun, nofun, nofun, bound⟩
    | d =>
      obtain ⟨i, hi⟩ := Option.isSome_iff_exists.mp (chooseGrant_eq_d hg)
      rw [hi] at bound ⊢
      exact ⟨nofun, fun _ _ => ⟨(if_pos ·), (if_neg ·), rfl⟩, nofun, nofun, bound⟩
    | c => exact ⟨nofun, nofun, fun _ => ⟨rfl, (if_pos ·), (if_neg ·)⟩, nofun, bound⟩

end Sys2Proof.SegmentScheduling
end

section
/-!
The segment's states and the phases of a transaction: SEGMENT_RESET, the hold and settle deadlines, and the events that
move a transaction on (R85, R86, R89, R90, R104 to R106).
-/

namespace Sys2Proof.SegmentBus

open Sys2Proof.Machine Sys2Proof.Safety

/-! ### SEGMENT_RESET (R106, R185) -/

theorem segmentReset_of_resetting {s : State} (h : s.seg.state = .resetting) :
    s.segmentReset = { s with seg := { s.seg with hold := some s.params.segResetHold } } := by
  unfold State.segmentReset
  rw [h]

theorem segmentReset_of_not_resetting {s : State} (h : s.seg.state ≠ .resetting) :
    s.segmentReset = s.enterResetting .request := by
  unfold State.segmentReset
  cases hst : s.seg.state with
  | resetting => exact absurd hst h
  | settling => rfl
  | running => rfl

/-- The request acts on the segment and answers with the state it found. -/
theorem exec_segmentReset {s : State} {seq : Byte} (h : Executes s seq 0x3E []) :
    exec (.segmentReset seq []) s = .next (answered s.segmentReset seq 0x3E (.doneSegmentReset s.seg.state)) :=
  congrArg Host.Outcome.next (request_parsed h State.resetSegment (a := ()) rfl)

/-- Settles O22, by whether the segment is RESETTING already. -/
theorem segmentResetTaken : Obligations.SegmentResetTaken := by
  intro s seq h
  rw [exec_segmentReset h]
  refine ⟨fun hst => ?_, fun hst => ?_⟩
  · rw [segmentReset_of_not_resetting hst]
  · rw [segmentReset_of_resetting hst, hst]

/-! ### The hold and settle deadlines (R104, R105) -/

theorem exec_holdExpiry {s : State} {h : Nat} (hh : s.held = none) (hold : s.seg.hold = some h) :
    exec .holdExpiry s = .next s.holdExpires.arbitrate := by
  show Host.Outcome.next _ = _
  rw [State.event_of_running hh, if_pos (by rw [hold]; rfl)]

theorem exec_settleExpiry {s : State} {d : Nat} (hh : s.held = none) (settle : s.seg.settle = some d) :
    exec .settleExpiry s = .next s.enterRunning.arbitrate := by
  show Host.Outcome.next _ = _
  rw [State.event_of_running hh, if_pos (by rw [settle]; rfl)]

/-- Settles O35, by whether SEG_SETTLE gives SETTLING any time. -/
theorem holdExpiryReleasesSegment : Obligations.HoldExpiryReleasesSegment := by
  intro s h hh hold
  rw [exec_holdExpiry hh hold]
  unfold State.holdExpires
  refine ⟨fun hne => ?_, fun hzero => ?_⟩
  · rw [if_neg hne]; rfl
  · rw [if_pos hzero]; rfl

/-- Settles O36: the end of SETTLING is the entry into RUNNING. -/
theorem settleExpiryStartsRunning : Obligations.SettleExpiryStartsRunning :=
  fun _ _ hh settle => exec_settleExpiry hh settle

/-! ### The phases of a transaction (R85, R86, R89, R90) -/

theorem inPhase_eq_some {s : State} {x : Transaction} {p : Phase} (hx : s.engine.txn = some x) (hp : x.phase = p) :
    s.inPhase p = some x := by
  unfold State.inPhase
  rw [hx]
  exact if_pos hp

theorem inPhase_eq_none {s : State} {p : Phase} (h : ∀ x : Transaction, s.engine.txn = some x → x.phase ≠ p) :
    s.inPhase p = none := by
  unfold State.inPhase
  cases hx : s.engine.txn with
  | none => rfl
  | some x => exact if_neg (h x hx)

theorem exec_turnaroundExpiry {s : State} {k : Nat} (hh : s.held = none) (hk : s.engine.turnaround = some k) :
    exec .turnaroundExpiry s = .next s.turnaroundEnds.arbitrate := by
  show Host.Outcome.next _ = _
  rw [State.event_of_running hh, if_pos (by rw [hk]; rfl)]

theorem turnaroundEnds_of_waiting {s : State} {x : Transaction} (hx : s.engine.txn = some x)
    (hp : x.phase = .turnaround) :
    s.turnaroundEnds = { s with
      engine := { txn := some { x with phase := .sending, driven := some x.cmd.packet }, turnaround := none }
      counters := { s.counters with transactionsSent := s.counters.transactionsSent + 1 } } := by
  unfold State.turnaroundEnds
  rw [inPhase_eq_some hx hp]

theorem turnaroundEnds_of_none_waiting {s : State}
    (h : ∀ x : Transaction, s.engine.txn = some x → x.phase ≠ .turnaround) :
    s.turnaroundEnds = { s with engine := { s.engine with turnaround := none } } := by
  unfold State.turnaroundEnds
  rw [inPhase_eq_none h]

/-- The phase behind SENDING, as R86 tells the three kinds of command apart. -/
theorem afterSending_eq (c : Command) : c.afterSending =
    if c.kind = .survey then .train else if c.target = .broadcast then .window else .listening := by
  unfold Command.afterSending
  cases c.kind <;> cases c.target <;> rfl

theorem exec_commandSent {s : State} {x : Transaction} (hi : InPhase s x .sending) :
    exec .commandSent s = .next (s.setTxn { x with
      phase := x.cmd.afterSending, driven := none, windowDeadline := some s.params.responseWindow }).arbitrate := by
  obtain ⟨hh, hx, hp⟩ := hi
  show Host.Outcome.next _ = _
  rw [State.event_of_running hh, inPhase_eq_some hx hp]

theorem exec_responseStartBit {s : State} {x : Transaction} (hi : InPhase s x .listening) :
    exec .responseStartBit s = .next (s.setTxn { x with phase := .receiving }).arbitrate := by
  obtain ⟨hh, hx, hp⟩ := hi
  show Host.Outcome.next _ = _
  rw [State.event_of_running hh, inPhase_eq_some hx hp]

/-- Settles O38, event by event. -/
theorem transactionPhasesAdvance : Obligations.TransactionPhasesAdvance := by
  intro s hh
  refine ⟨fun k hk => ?_, fun x hx hp => ?_, fun x hx hp => exec_responseStartBit ⟨hh, hx, hp⟩⟩
  · rw [exec_turnaroundExpiry hh hk]
    refine ⟨fun x hx hp => ?_, fun hnone => ?_⟩
    · rw [turnaroundEnds_of_waiting hx hp]
    · rw [turnaroundEnds_of_none_waiting hnone]
  · rw [exec_commandSent ⟨hh, hx, hp⟩, afterSending_eq]; rfl

end Sys2Proof.SegmentBus
end

section
/-!
The ends of a transaction to a node: what its outcome counts and what it leaves in the Node Table (R90, R91, R109 to
R113).
-/

namespace Sys2Proof.SegmentBus

open Sys2Proof.Machine Sys2Proof.Safety Sys2Proof.Laws Sys2Proof.PostedWrites Sys2Proof.DelayedRequests

/-! ### Classification (R91 to R94) -/

/-- Settles O46, from three facts about the table of R94: what it permits, where it ends a response, what it leaves out. -/
theorem goodResponsesClassified : Obligations.GoodResponsesClassified := by
  intro cmd
  refine ⟨fun code content o h => ?_, fun chars => ?_, fun chars h => ?_⟩
  · exact classify_of_permitted h
  · exact (endOf_eq_responseLength cmd chars).symm
  · exact (classify_of_faulty h).2

/-! ### What is counted (R90, R107) -/

/-- A response that has come is not the silence of R90. -/
theorem ne_noResponse_of_permitted {cmd : Command} {code : Byte} {content : List Byte} {o : SegOutcome}
    (h : Permitted cmd code content o) : o ≠ .noResponse := by
  rcases h with ⟨-, -, -, rfl⟩ | ⟨-, -, -, -, -, rfl⟩ | ⟨-, -, -, rfl⟩ | ⟨-, -, r, -, -, -, rfl⟩ |
    ⟨-, -, head, c, data, -, -, -, rfl⟩ | ⟨-, -, -, rfl⟩ | ⟨-, -, -, rfl⟩ <;> exact nofun

/-- The counters when a transaction has ended with this outcome. -/
def endCounted (c : Counters) (o : SegOutcome) : Counters :=
  if o = .noResponse then { c with noResponses := c.noResponses + 1 } else countedAs c o

theorem endCounted_of_ne (c : Counters) {o : SegOutcome} (h : o ≠ .noResponse) : endCounted c o = countedAs c o :=
  if_neg h

theorem endCounted_noResponses (c : Counters) (o : SegOutcome) :
    (endCounted c o).noResponses = c.noResponses + if o = .noResponse then 1 else 0 := by
  cases o <;> simp [endCounted, countedAs]

theorem endCounted_garbled (c : Counters) (o : SegOutcome) :
    (endCounted c o).garbled = c.garbled + if o = .garbled then 1 else 0 := by
  cases o <;> simp [endCounted, countedAs]

/-- An end of the transaction counts its outcome and delivers it, and the arbiter decides (R81, R90 to R94, R107). -/
theorem exec_of_ends_counted {s : State} {x : Transaction} {c : Instr} {o : SegOutcome} (h : Ends s x c o) :
    exec c s = .next (State.deliver { s with counters := endCounted s.counters o } x o).arbitrate := by
  obtain ⟨hh, hx, ⟨hp, rfl, rfl⟩ | ⟨hp, rfl, rfl⟩ | ⟨hp, rfl, chars, rfl, hfaulty⟩ |
    ⟨hp, code, content, chars, rfl, hchars, hpermitted⟩⟩ := h
  · exact exec_responseWindowExpiry ⟨hh, hx, hp⟩
  · exact exec_responseGapTimeout ⟨hh, hx, hp⟩
  · obtain ⟨hl, ho⟩ := classify_of_faulty hfaulty
    exact exec_responseEnd_of_length ⟨hh, hx, hp⟩ hl ho
  · obtain ⟨hl, ho⟩ := classify_of_permitted hpermitted
    rw [endCounted_of_ne _ (ne_noResponse_of_permitted hpermitted)]
    exact exec_responseEnd_of_classified ⟨hh, hx, hp⟩ chars code content o hchars hl ho

/-- What is counted at the end is still so when the outcome has been delivered. -/
theorem deliver_counted (s : State) (x : Transaction) (o : SegOutcome) :
    let t := (State.deliver { s with counters := endCounted s.counters o } x o).arbitrate
    t.counters.noResponses = s.counters.noResponses + (if o = .noResponse then 1 else 0) ∧
      t.counters.garbled = s.counters.garbled + (if o = .garbled then 1 else 0) := by
  have h := deliver_misses { s with counters := endCounted s.counters o } x o
  simp only [misses, Prod.mk.injEq] at h
  simp only [State.arbitrate_counters]
  rw [h.1, h.2, endCounted_noResponses, endCounted_garbled]
  exact ⟨rfl, rfl⟩

/-! ### The record of the node (R109 to R113) -/

theorem take_of_heard (r : NodeRecord) (kind : CommandKind) (limit : Nat) {o : SegOutcome} (hn : o ≠ .noResponse)
    (hg : o ≠ .garbled) : (r.take kind limit o).presence = .present ∧ (r.take kind limit o).silence = 0 := by
  cases o with
  | noResponse => exact absurd rfl hn
  | garbled => exact absurd rfl hg
  | _ => exact ⟨rfl, rfl⟩

theorem take_postable_packetSize (r : NodeRecord) (kind : CommandKind) (limit : Nat) (o : SegOutcome) :
    (r.take kind limit o).postable = r.postable ∧ (r.take kind limit o).packetSize = r.packetSize := by
  cases o <;> exact ⟨rfl, rfl⟩

/-- A record with other fetch state. -/
def refetched (r : NodeRecord) (toggle : Bool) (eligible : Option Nat) : NodeRecord :=
  { r with fetchToggle := toggle, fetchEligible := eligible }

/-- The Attention Unit changes a record in its fetch state alone (R133, R136). -/
theorem fetchOutcome_nodes (u : State) (n : NodeId) (o : SegOutcome) : ∃ toggle eligible,
    (u.fetchOutcome n o).nodes = (u.setNode n (refetched (u.node n) toggle eligible)).nodes := by
  have kept : ∃ toggle eligible, u.nodes = (u.setNode n (refetched (u.node n) toggle eligible)).nodes :=
    ⟨(u.node n).fetchToggle, (u.node n).fetchEligible, (nodes_set_self u n).symm⟩
  have retried (mark : Bool) : ∃ toggle eligible,
      (u.fetchRetry n mark).nodes = (u.setNode n (refetched (u.node n) toggle eligible)).nodes :=
    ⟨(u.node n).fetchToggle, some u.params.retryGap, rfl⟩
  cases o with
  | report more code data =>
    unfold State.fetchOutcome
    simp only
    split
    · exact ⟨!(u.node n).fetchToggle, (u.node n).fetchEligible, rfl⟩
    · exact kept
  | empty => exact kept
  | refuse r => exact kept
  | noResponse => exact kept
  | wait => exact retried false
  | garbled => exact retried true
  | ack => exact retried true
  | data b => exact retried true
  | ident b => exact retried true

/-- Whoever holds the grant changes a record in its fetch state alone. -/
theorem granteeOutcome_nodes (u : State) {x : Transaction} {n : NodeId} (o : SegOutcome) (ht : x.cmd.target = .node n) :
    ∃ toggle eligible, (u.granteeOutcome x o).nodes = (u.setNode n (refetched (u.node n) toggle eligible)).nodes := by
  have kept : u.nodes = (u.setNode n (refetched (u.node n) (u.node n).fetchToggle (u.node n).fetchEligible)).nodes :=
    (nodes_set_self u n).symm
  unfold State.granteeOutcome
  cases x.requester with
  | p => exact ⟨_, _, (State.headOutcome_nodes u x.cmd o).trans kept⟩
  | d i => exact ⟨_, _, (State.slotOutcome_nodes u i x.cmd o).trans kept⟩
  | c => simp only [ht]; exact fetchOutcome_nodes u n o

/-- The Node Table at the end of the event: the node's record has taken the outcome, and the grantee has changed at most
its fetch state (R81, R109). -/
theorem deliver_nodes_at_end (s : State) {x : Transaction} {n : NodeId} (o : SegOutcome) (ht : x.cmd.target = .node n) :
    (∃ toggle eligible, (s.deliver x o).arbitrate.node n =
      refetched ((s.node n).take x.cmd.kind s.params.silenceLimit o) toggle eligible) ∧
    ∀ m : NodeId, m ≠ n → (s.deliver x o).arbitrate.node m = s.node m := by
  obtain ⟨toggle, eligible, hnodes⟩ := granteeOutcome_nodes (beforeSlot s x.cmd o) o ht
  have hend : (s.deliver x o).arbitrate.nodes = _ :=
    (decisionKeeps_released ((beforeSlot s x.cmd o).granteeOutcome x o)).nodes.trans hnodes
  refine ⟨⟨toggle, eligible, ?_⟩, fun m hm => ?_⟩
  · rw [node_congr hend, node_setNode_self, beforeSlot_node o ht]
  · rw [node_congr hend, node_setNode_ne _ n m _ hm]
    unfold beforeSlot
    rw [node_congr (State.checkHead_nodes _), nodeOutcome_node o ht, node_setNode_ne s n m _ hm]

/-- A FETCH that meets silence drops its node from the attention set (R135). -/
theorem silent_fetch_drops_member (s : State) {x : Transaction} {n : NodeId} (hr : x.requester = .c)
    (ht : x.cmd.target = .node n) : ∀ m ∈ (s.deliver x .noResponse).attn.members, m.node ≠ n := by
  intro m hm
  have hleft := schedule_members _ m hm
  unfold State.granteeOutcome at hleft
  simp only [hr, ht] at hleft
  simpa using List.of_mem_filter hleft

/-- RESPONSE_WINDOW_EXPIRY is the end of the transaction with NO_RESPONSE. -/
theorem ends_of_window {s : State} {x : Transaction} (hi : InPhase s x .listening) :
    Ends s x .responseWindowExpiry .noResponse :=
  ⟨hi.1, hi.2.1, .inl ⟨hi.2.2, rfl, rfl⟩⟩

/-- Settles O39: the silence of a node, then every end of a transaction to it. -/
theorem silenceCountsAgainstNode : Obligations.SilenceCountsAgainstNode := by
  refine ⟨fun s x n hi ht => ?_, fun s x n c o h ht => ?_⟩
  · refine ⟨_, exec_of_ends_counted (ends_of_window hi), ?_⟩
    obtain ⟨hsilent, hgarbled⟩ := deliver_counted s x .noResponse
    obtain ⟨-, hothers⟩ :=
      deliver_nodes_at_end { s with counters := endCounted s.counters .noResponse } .noResponse ht
    refine ⟨hsilent, by simpa using hgarbled, ?_, hothers, fun hr => ?_, by simp, by simp, by simp⟩
    · rw [node_congr (State.arbitrate_nodes _), node_congr (deliver_nodes _ x .noResponse fun _ => rfl),
        nodeOutcome_node .noResponse ht, node_setNode_self]
      rfl
    · rw [State.arbitrate_attn]
      exact silent_fetch_drops_member _ hr ht
  · refine ⟨_, exec_of_ends_counted h, ?_⟩
    obtain ⟨⟨toggle, eligible, hnode⟩, hothers⟩ :=
      deliver_nodes_at_end { s with counters := endCounted s.counters o } o ht
    obtain ⟨hpostable, hsize⟩ := take_postable_packetSize (s.node n) x.cmd.kind s.params.silenceLimit o
    refine ⟨hothers, ?_⟩
    rw [hnode]
    refine ⟨take_of_heard (s.node n) x.cmd.kind s.params.silenceLimit, ?_, ?_, ?_, hpostable, hsize,
      deliver_counted s x o⟩
    · rintro rfl; exact ⟨rfl, rfl⟩
    · cases o <;> rfl
    · cases o <;> rfl

end Sys2Proof.SegmentBus
end

section
/-!
The end of a survey train: which nodes are marked, and what the marks leave in the Node Table and the Attention Unit
(R98, R99, R114, R130, R131).
-/

namespace Sys2Proof.SegmentBus

open Sys2Proof.Machine Sys2Proof.Safety Sys2Proof.Laws Sys2Proof.PostedWrites

/-! ### The marked nodes (R98, R99) -/

/-- A start bit marks a slot whether its character is well formed or not (R99). -/
theorem trainSlot_eq_noMark_iff (starts : List TrainStart) (n : NodeId) :
    trainSlot starts n = .noMark ↔ startsIn starts n = [] := by
  unfold trainSlot
  match startsIn starts n with
  | [] => simp
  | [a] => simp only; split <;> simp
  | a :: b :: rest => simp

/-- The slot of a node is 12 bit times from bit time 12 times its address (R98). -/
theorem mem_startsIn_iff (starts : List TrainStart) (n : NodeId) (a : TrainStart) :
    a ∈ startsIn starts n ↔ a ∈ starts ∧ 12 * (n.val + 1) ≤ a.time ∧ a.time < 12 * (n.val + 1) + 12 := by
  unfold startsIn Config.surveySlot
  rw [List.mem_filter, beq_iff_eq]
  exact and_congr_right fun _ => by omega

theorem mem_markedNodes_iff (starts : List TrainStart) (n : NodeId) : n ∈ markedNodes starts ↔
    ∃ a ∈ starts, 12 * (n.val + 1) ≤ a.time ∧ a.time < 12 * (n.val + 1) + 12 := by
  unfold markedNodes allNodes
  rw [List.mem_filter, bne_iff_ne, ne_eq, trainSlot_eq_noMark_iff, List.eq_nil_iff_forall_not_mem, not_forall]
  simp only [List.mem_finRange, true_and, not_not, mem_startsIn_iff]

/-! ### What the marks leave (R114, R130, R131) -/

/-- The marks have gone to the Node Table and to the Attention Unit. -/
def surveyed (s : State) (marked : List NodeId) : State := (s.surveyMarks marked).surveyOutcome marked

theorem trainEnds_arbitrate (s : State) (starts : List TrainStart) :
    (s.trainEnds starts).arbitrate = released (surveyed s (markedNodes starts)) := rfl

theorem surveyed_node (s : State) (marked : List NodeId) (n : NodeId) :
    (surveyed s marked).node n = if n ∈ marked then (s.node n).heard else s.node n := by
  unfold surveyed
  rw [node_congr (State.surveyOutcome_nodes _ marked)]
  simp [State.node]

theorem mem_surveyed_members (s : State) (marked : List NodeId) (m : Member) :
    m ∈ (surveyed s marked).attn.members ↔ m.node ∈ marked ∧ m.repeatMark = false := by
  unfold surveyed
  rw [State.surveyOutcome_attn, List.mem_map]
  constructor
  · rintro ⟨n, hn, rfl⟩; exact ⟨hn, rfl⟩
  · obtain ⟨node, repeatMark⟩ := m
    rintro ⟨hn, rfl⟩; exact ⟨node, hn, rfl⟩

/-- The new members are PRESENT, so that the next decision keeps them all (R114, R126). -/
theorem surveyed_members_present (s : State) (marked : List NodeId) :
    ∀ m ∈ (surveyed s marked).attn.members, (surveyed s marked).absent m.node = false := by
  intro m hm
  obtain ⟨hn, -⟩ := (mem_surveyed_members s marked m).mp hm
  unfold State.absent
  rw [surveyed_node, if_pos hn]
  rfl

/-- With no ABSENT member the release of the grant and the decisions behind it leave the attention set (R126). -/
theorem released_attention {u : State} (h : ∀ m ∈ u.attn.members, u.absent m.node = false) :
    (released u).attn.members = u.attn.members ∧ (released u).attn.holdoff = u.attn.holdoff := by
  rw [← release_schedule_arbitrate, State.arbitrate_attn]
  exact schedule_attention u.release h

theorem exec_surveyTrainEnd {s : State} {x : Transaction} (starts : List TrainStart) (hi : InPhase s x .train) :
    exec (.surveyTrainEnd starts) s = .next (released (surveyed s (markedNodes starts))) := by
  obtain ⟨hh, hx, hp⟩ := hi
  show Host.Outcome.next _ = _
  rw [State.event_of_running hh, inPhase_eq_some hx hp, ← trainEnds_arbitrate]

/-- Settles O45: the marked nodes, their records, the attention set and the holdoff. -/
theorem surveyMarksNodes : Obligations.SurveyMarksNodes := by
  intro s x starts hi
  have keeps := decisionKeeps_released (surveyed s (markedNodes starts))
  have tallies := keeps.tallies
  simp only [Laws.tallies, Prod.mk.injEq] at tallies
  obtain ⟨-, -, hgarbled, hsilent⟩ := tallies
  obtain ⟨hmembers, hholdoff⟩ := released_attention (surveyed_members_present s (markedNodes starts))
  refine ⟨_, markedNodes starts, exec_surveyTrainEnd starts hi, mem_markedNodes_iff starts, fun n hn => ?_,
    fun n hn => ?_, fun m => ?_, ?_, hsilent, hgarbled⟩
  · rw [node_congr keeps.nodes, surveyed_node, if_pos hn]; rfl
  · rw [node_congr keeps.nodes, surveyed_node, if_neg hn]
  · rw [hmembers, mem_surveyed_members]
  · rw [hholdoff]; simp [surveyed]

end Sys2Proof.SegmentBus
end

section
/-!
SET_NODE, GET_NODE and GET_STATUS as the dispatcher executes them: the record that SET_NODE leaves, and the two requests
that read and change nothing (R118, R120, R176).
-/

namespace Sys2Proof.NodeTable

open Sys2Proof.Machine Sys2Proof.Safety

/-! ### SET_NODE (R118) -/

theorem setNodeOperands_payload (n : NodeId) (postable : Bool) (size : PacketSize) (clearAbsence : Bool) :
    setNodeOperands [nodeByte n, flagByte postable, byte size.bytes, flagByte clearAbsence] =
      some (n, postable, size, clearAbsence) := by
  simp only [setNodeOperands, nodeField_nodeByte, flagField_flagByte, sizeField_bytes]

/-- With clear-absence the presence and the silence count are written too. -/
theorem configured_eq (r : NodeRecord) (postable : Bool) (size : PacketSize) (clearAbsence : Bool) :
    r.configured postable size clearAbsence =
      if clearAbsence then { r with postable := postable, packetSize := size, presence := .unknown, silence := 0 }
      else { r with postable := postable, packetSize := size } := by
  cases clearAbsence with
  | true => rfl
  | false => rfl

/-- The record is written and the answer carries it as written. -/
theorem exec_setNode {s : State} {seq : Byte} {n : NodeId} {postable clearAbsence : Bool} {size : PacketSize}
    (hx : Executes s seq 0x30 [nodeByte n, flagByte postable, byte size.bytes, flagByte clearAbsence]) :
    exec (.setNode seq [nodeByte n, flagByte postable, byte size.bytes, flagByte clearAbsence]) s =
      .next (answered (s.setNode n ((s.node n).configured postable size clearAbsence)) seq 0x30
        (.doneNode n ((s.node n).configured postable size clearAbsence))) :=
  congrArg Host.Outcome.next
    (request_parsed hx State.configureNode (setNodeOperands_payload n postable size clearAbsence))

/-- Settles O17: SET_NODE writes the configured record, by whether clear-absence is set. -/
theorem setNodeWrites : Obligations.SetNodeWrites := by
  intro s seq n postable clearAbsence size p r hx
  have written : (s.node n).configured postable size clearAbsence = r := configured_eq ..
  rw [exec_setNode hx, written]
  rfl

/-! ### GET_NODE and GET_STATUS (R120, R176) -/

theorem getNodeOperands_payload (n : NodeId) : getNodeOperands [nodeByte n] = some n := nodeField_nodeByte n

theorem exec_getNode {s : State} {seq : Byte} {n : NodeId} (hx : Executes s seq 0x31 [nodeByte n]) :
    exec (.getNode seq [nodeByte n]) s = .next (answered s seq 0x31 (.doneNode n (s.node n))) :=
  congrArg Host.Outcome.next (request_parsed hx State.readNode (getNodeOperands_payload n))

theorem exec_getStatus {s : State} {seq : Byte} (hx : Executes s seq 0x34 []) :
    exec (.getStatus seq []) s = .next (answered s seq 0x34 (.doneStatus s.status)) :=
  congrArg Host.Outcome.next (request_parsed hx State.readStatus (a := ()) rfl)

/-- The statement counts the SENT entries of R176 as the length of the queue's SENT part. -/
theorem sentCount_eq_length_filter (b : NoticeBlock) :
    b.sentCount = (b.queue.filter fun e => e.state == .sent).length := List.countP_eq_length_filter

/-- Settles O18: neither request changes the state that is answered from. -/
theorem readRequestsAnswer : Obligations.ReadRequestsAnswer := by
  refine ⟨fun s seq n hx => exec_getNode hx, fun s seq hx => ?_⟩
  rw [exec_getStatus hx, State.status, sentCount_eq_length_filter]
  rfl

end Sys2Proof.NodeTable
end

section
/-!
SEG_ATTN, and the deadlines of collect work: what each event leaves, and whom the scheduler grants at it (R125 to R131,
R136).
-/

namespace Sys2Proof.AttentionUnit

open Sys2Proof.Machine Sys2Proof.Safety Sys2Proof.PostedWrites Sys2Proof.SegmentScheduling

/-! ### The collect deadlines (R128, R131, R136) -/

theorem exec_fetchEligibleExpiry {s : State} {n : NodeId} {g : Nat} (hh : s.held = none)
    (running : (s.node n).fetchEligible = some g) : exec (.fetchEligibleExpiry n) s =
      .next (s.setNode n { s.node n with fetchEligible := none }).schedule.arbitrate := by
  show Host.Outcome.next _ = _
  rw [State.event_of_running hh, State.fetchEligibleEnds, if_pos (by rw [running]; rfl)]

theorem exec_surveyHoldoffExpiry {s : State} {g : Nat} (hh : s.held = none) (running : s.attn.holdoff = some g) :
    exec .surveyHoldoffExpiry s =
      .next (State.schedule { s with attn := { s.attn with holdoff := none } }).arbitrate := by
  show Host.Outcome.next _ = _
  rw [State.event_of_running hh, State.holdoffEnds, if_pos (by rw [running]; rfl)]

/-- Settles O52: each deadline was running, so it ends and a decision follows. -/
theorem collectDeadlinesEnd : Obligations.CollectDeadlinesEnd :=
  fun _ hh => ⟨fun _ _ running => exec_fetchEligibleExpiry hh running, fun _ running => exec_surveyHoldoffExpiry hh running⟩

/-! ### SEG_ATTN (R125, R126, R128) -/

theorem exec_segAttnAsserted {s : State} (hh : s.held = none) :
    exec .segAttnAsserted s = .next (State.schedule { s with segAttn := true }).arbitrate :=
  congrArg Host.Outcome.next (State.event_of_running (s := { s with segAttn := true }) hh State.schedule)

theorem exec_segAttnReleased {s : State} (hh : s.held = none) :
    exec .segAttnReleased s = .next (State.arbitrate { s with segAttn := false }) :=
  congrArg Host.Outcome.next (State.event_of_running (s := { s with segAttn := false }) hh fun t => t)

/-- An empty attention set has no member to fetch from (R127). -/
theorem nextFetch_of_no_members {s : State} (h : s.attn.members = []) : s.nextFetch = none := by
  unfold State.nextFetch
  rw [List.find?_eq_none]
  intro n _
  simp [Attention.has, h]

/-- With no member and the line released there is no collect work (R126). -/
theorem collectOffer_of_released {s : State} (hm : s.attn.members = []) (hl : s.segAttn = false) :
    s.collectOffer = none := by
  unfold State.collectOffer
  rw [nextFetch_of_no_members hm, hl]
  simp

/-- The DRT has no candidate in an empty table (R75). -/
theorem slotOffered_of_empty {s : State} (hslots : ∀ i : SlotId, s.slot i = none) (horder : s.drt.order = []) :
    slotOffered s = none := by
  unfold slotOffered slotsLookedAt
  simp [hslots, horder]

/-- The only candidate is granted, whatever the shares (R78). -/
theorem schedule_grants_collect_alone {s : State} (hr : s.seg.state = .running) (ht : s.engine.txn = none)
    (hp : s.pwq.queue = none) (hd : slotOffered s = none) (hc : CollectPresent s) :
    s.schedule.engine.txn.map (·.requester) = some .c := by
  obtain ⟨byShare, -, byRank⟩ := grantRule s hr ht
  by_cases hshare : CollectPresent s ∧ s.params.collectShare ≤ s.sched.collectShare
  · exact byShare hshare
  · obtain ⟨-, -, onlyC, -⟩ := byRank hshare (by simp [hd])
    exact onlyC (by simp [hp]) (by simp [hd]) hc

/-- A grant to C over an empty attention set is a SURVEY (R126, R129). -/
theorem surveyCommand_of_granted_c {s : State} {x : Transaction} (hr : s.seg.state = .running) (ht : s.engine.txn = none)
    (hm : s.attn.members = []) (hx : s.schedule.engine.txn = some x) (hc : x.requester = .c) : x.cmd = surveyCommand := by
  rcases schedule_granted_c hr ht hx hc with ⟨n, ⟨⟨m, hmem, -⟩, -⟩, -⟩ | ⟨-, -, hcmd, -⟩
  · rw [hm] at hmem; cases hmem
  · exact hcmd

/-- A granted transaction waits for the turnaround, or is being sent (R85, R86). -/
theorem schedule_phase {s : State} {x : Transaction} (hr : s.seg.state = .running) (ht : s.engine.txn = none)
    (hx : s.schedule.engine.txn = some x) :
    x.phase = if s.engine.turnaround = none then .sending else .turnaround := by
  obtain ⟨-, -, sends, waits⟩ := schedule_record hr ht hx
  split
  · next hidle => exact (sends hidle).1
  · next hruns => exact (waits hruns).1

/-- With SEG_ATTN asserted, no member and no other candidate, the decision starts a SURVEY (R126, R128, R129). -/
theorem schedule_starts_survey {s : State} (hr : s.seg.state = .running) (ht : s.engine.txn = none)
    (hm : s.attn.members = []) (hp : s.pwq.queue = none) (hd : slotOffered s = none) (hc : CollectPresent s) :
    ∃ x : Transaction, s.schedule.engine.txn = some x ∧ x.requester = .c ∧ x.cmd = surveyCommand ∧
      x.phase = if s.engine.turnaround = none then .sending else .turnaround := by
  obtain ⟨x, hx, hgrant⟩ := Option.map_eq_some_iff.mp (schedule_grants_collect_alone hr ht hp hd hc)
  exact ⟨x, hx, hgrant, surveyCommand_of_granted_c hr ht hm hx hgrant, schedule_phase hr ht hx⟩

/-- Settles O37: the level, the offer without it, and the SURVEY that is then the only candidate. -/
theorem segAttnFollowsLine : Obligations.SegAttnFollowsLine := by
  intro s hh
  refine ⟨exec_segAttnAsserted hh, exec_segAttnReleased hh, collectOffer_of_released rfl rfl,
    fun hr ht hm hhold hroom hp hslots horder => ?_⟩
  have present : CollectPresent { s with segAttn := true } :=
    ⟨hroom, .inr ⟨fun m hmem => absurd (hm ▸ hmem) List.not_mem_nil, rfl, hhold⟩⟩
  obtain ⟨x, hx, hgrant, hcmd, hphase⟩ := schedule_starts_survey (s := { s with segAttn := true }) hr ht hm hp
    (slotOffered_of_empty hslots horder) present
  refine ⟨_, x, exec_segAttnAsserted hh, by rw [State.arbitrate_engine, hx], hgrant, ?_, ?_, hphase⟩
  · rw [hcmd]; rfl
  · rw [hcmd]; rfl

end Sys2Proof.AttentionUnit
end

section
/-!
What the Attention Unit does with the end of a FETCH: the attention set, the fetch state of the node and the Notice Queue
at the end of the event (R126, R133 to R136, R145, R148).
-/

namespace Sys2Proof.AttentionUnit

open Sys2Proof.Machine Sys2Proof.Safety Sys2Proof.Laws Sys2Proof.PostedWrites Sys2Proof.DelayedRequests
open Sys2Proof.SegmentBus

/-! ### The attention set (R124) -/

theorem has_iff_exists_member (a : Attention) (n : NodeId) : a.has n = true ↔ ∃ m ∈ a.members, m.node = n := by
  simp [Attention.has]

theorem mem_remove_iff (a : Attention) (n : NodeId) (m : Member) :
    m ∈ (a.remove n).members ↔ m ∈ a.members ∧ m.node ≠ n := by
  simp [Attention.remove]

theorem setMark_has (a : Attention) (n : NodeId) (mark : Bool) (k : NodeId) : (a.setMark n mark).has k = a.has k := by
  have sameNode (m : Member) : (if m.node = n then { m with repeatMark := mark } else m).node = m.node := by
    split <;> rfl
  unfold Attention.has Attention.setMark
  simp only [List.any_map, Function.comp_def, sameNode]

theorem mem_setMark_iff_of_ne (a : Attention) {n : NodeId} (mark : Bool) {m : Member} (h : m.node ≠ n) :
    m ∈ (a.setMark n mark).members ↔ m ∈ a.members := by
  unfold Attention.setMark
  rw [List.mem_map]
  constructor
  · rintro ⟨k, hk, rfl⟩
    split at h
    · next hkn => exact absurd hkn h
    · next hkn => rwa [if_neg hkn]
  · exact fun hm => ⟨m, hm, if_neg h⟩

theorem repeatMark_of_mem_setMark {a : Attention} {n : NodeId} {mark : Bool} {m : Member}
    (hm : m ∈ (a.setMark n mark).members) (hn : m.node = n) : m.repeatMark = mark := by
  obtain ⟨k, -, rfl⟩ := List.mem_map.mp hm
  by_cases hkn : k.node = n
  · rw [if_pos hkn]
  · rw [if_neg hkn] at hn; exact absurd hn hkn

/-! ### The members at the end of an event (R126) -/

theorem schedule_keeps_member {s : State} {m : Member} (hm : m ∈ s.attn.members)
    (hp : (s.node m.node).presence ≠ .absent) : m ∈ s.schedule.attn.members := by
  by_cases idle : s.seg.state = .running ∧ s.engine.txn = none
  · obtain ⟨hr, ht⟩ := idle
    rw [schedule_eq_grantNext hr ht, (grantNext_attention _ _).1, (offered_membersPresent s).members]
    exact List.mem_filter.mpr ⟨hm, by simpa [State.absent] using hp⟩
  · rwa [State.schedule, if_neg idle]

theorem released_members_subset {u : State} {m : Member} (hm : m ∈ (released u).attn.members) : m ∈ u.attn.members := by
  unfold released at hm
  rw [State.arbitrate_attn] at hm
  exact schedule_members u.release m hm

theorem released_keeps_member {u : State} {m : Member} (hm : m ∈ u.attn.members)
    (hp : ((released u).node m.node).presence ≠ .absent) : m ∈ (released u).attn.members := by
  rw [node_congr (decisionKeeps_released u).nodes] at hp
  unfold released
  rw [State.arbitrate_attn]
  exact schedule_keeps_member hm hp

theorem released_keeps_has {u : State} {n : NodeId} (h : u.attn.has n = true)
    (hp : ((released u).node n).presence ≠ .absent) : (released u).attn.has n = true := by
  obtain ⟨m, hm, rfl⟩ := (has_iff_exists_member _ n).mp h
  exact (has_iff_exists_member _ _).mpr ⟨m, released_keeps_member hm hp, rfl⟩

theorem released_numbers (u : State) : (released u).notices.next = u.notices.next ∧
    (released u).notices.lostFaults = u.notices.lostFaults := by
  unfold released
  rw [(arbitrate_numbers _).1, (arbitrate_numbers _).2, State.schedule_notices_next, State.schedule_notices_lostFaults]
  exact ⟨rfl, rfl⟩

/-! ### What each outcome does (R133 to R136) -/

/-- A REPORT becomes the newest entry (R133, R144). -/
theorem enterReport_contents (b : NoticeBlock) (n : NodeId) (code : Byte) (data : List Byte) :
    contents (b.enterReport n code data) = contents b ++ [(b.next, .report n code data)] := by
  simp [contents, NoticeBlock.enterReport]

section Outcome

variable (u : State) (n : NodeId) {o : SegOutcome}

theorem fetchOutcome_of_room (more : Bool) (code : Byte) (data : List Byte) (h : u.notices.queue.length < 24) :
    u.fetchOutcome n (.report more code data) = u.reportEntered n more code data :=
  if_pos (decide_eq_true h)

theorem fetchOutcome_of_full (more : Bool) (code : Byte) (data : List Byte) (h : 24 ≤ u.notices.queue.length) :
    u.fetchOutcome n (.report more code data) = { u with attn := u.attn.setMark n true } :=
  if_neg fun room => absurd (of_decide_eq_true room) (Nat.not_lt.mpr h)

theorem fetchOutcome_of_dropped (h : o = .empty ∨ (∃ r : Byte, o = .refuse r) ∨ o = .noResponse) :
    u.fetchOutcome n o = { u with attn := u.attn.remove n } := by
  rcases h with rfl | ⟨r, rfl⟩ | rfl <;> rfl

theorem fetchOutcome_of_retried (h : o = .wait ∨ o = .garbled) :
    u.fetchOutcome n o = u.fetchRetry n (decide (o = .garbled)) := by
  rcases h with rfl | rfl <;> rfl

/-- The Attention Unit takes the node off the set, or rewrites its mark. -/
theorem fetchOutcome_attn (o : SegOutcome) : (u.fetchOutcome n o).attn = u.attn.remove n ∨
    ∃ mark, (u.fetchOutcome n o).attn = u.attn.setMark n mark := by
  cases o with
  | report more code data =>
    rcases Nat.lt_or_ge u.notices.queue.length 24 with room | full
    · rw [fetchOutcome_of_room u n more code data room, State.reportEntered_attn]
      cases more with
      | true => exact .inr ⟨false, rfl⟩
      | false => exact .inl rfl
    · rw [fetchOutcome_of_full u n more code data full]
      exact .inr ⟨true, rfl⟩
  | empty => exact .inl rfl
  | refuse r => exact .inl rfl
  | noResponse => exact .inl rfl
  | wait => exact .inr ⟨false, rfl⟩
  | garbled => exact .inr ⟨true, rfl⟩
  | ack => exact .inr ⟨true, rfl⟩
  | data b => exact .inr ⟨true, rfl⟩
  | ident b => exact .inr ⟨true, rfl⟩

theorem mem_fetchOutcome_iff_of_ne (o : SegOutcome) {m : Member} (h : m.node ≠ n) :
    m ∈ (u.fetchOutcome n o).attn.members ↔ m ∈ u.attn.members := by
  rcases fetchOutcome_attn u n o with hattn | ⟨mark, hattn⟩
  · rw [hattn, mem_remove_iff, and_iff_left h]
  · rw [hattn, mem_setMark_iff_of_ne _ _ h]

end Outcome

/-! ### The end of the event -/

/-- The Node Table has taken the counted outcome, and the Attention Unit comes next (R81, R107, R109). -/
def beforeFetch (s : State) (cmd : Command) (o : SegOutcome) : State :=
  beforeSlot { s with counters := endCounted s.counters o } cmd o

/-- The Attention Unit has taken the outcome of the FETCH to node n (R81). -/
def afterFetch (s : State) (n : NodeId) (cmd : Command) (o : SegOutcome) : State :=
  (beforeFetch s cmd o).fetchOutcome n o

/-- The state at the end of the event that delivers this outcome of a FETCH to node n (R81). -/
def fetchEnd (s : State) (n : NodeId) (cmd : Command) (o : SegOutcome) : State := released (afterFetch s n cmd o)

theorem take_keeps_fetch (r : NodeRecord) (kind : CommandKind) (limit : Nat) (o : SegOutcome) :
    (r.take kind limit o).fetchToggle = r.fetchToggle ∧ (r.take kind limit o).fetchEligible = r.fetchEligible := by
  cases o <;> exact ⟨rfl, rfl⟩

section FetchEnd

variable {s : State} {n : NodeId} {cmd : Command} {o : SegOutcome}

theorem beforeFetch_attn (s : State) (cmd : Command) (o : SegOutcome) : (beforeFetch s cmd o).attn = s.attn := by
  unfold beforeFetch beforeSlot
  rw [State.checkHead_attn, State.nodeOutcome_attn]

theorem beforeFetch_params (s : State) (cmd : Command) (o : SegOutcome) : (beforeFetch s cmd o).params = s.params :=
  beforeSlot_params _ cmd o

theorem beforeFetch_node (o : SegOutcome) (ht : cmd.target = .node n) :
    (beforeFetch s cmd o).node n = (s.node n).take cmd.kind s.params.silenceLimit o := beforeSlot_node o ht

/-- A response discards no head, so no fault is handed over before the Attention Unit's turn (R16). -/
theorem beforeFetch_notices (h : HeadChecked s) (ho : o ≠ .noResponse) : (beforeFetch s cmd o).notices = s.notices := by
  unfold beforeFetch
  rw [beforeSlot_of_headChecked (s := { s with counters := endCounted s.counters o }) h ho, State.nodeOutcome_notices]

/-- Every end of a FETCH is the delivery of its outcome to the Attention Unit. -/
theorem exec_of_fetch_ends {x : Transaction} {c : Instr} (h : Ends s x c o) (hr : x.requester = .c)
    (ht : x.cmd.target = .node n) : exec c s = .next (fetchEnd s n x.cmd o) := by
  rw [exec_of_ends_counted h]
  unfold State.deliver State.granteeOutcome
  rw [hr, ht]; rfl

theorem fetchEnd_node (s : State) (n k : NodeId) (cmd : Command) (o : SegOutcome) :
    (fetchEnd s n cmd o).node k = (afterFetch s n cmd o).node k :=
  node_congr (decisionKeeps_released _).nodes k

theorem fetchEnd_contents (s : State) (n : NodeId) (cmd : Command) (o : SegOutcome) :
    contents (fetchEnd s n cmd o).notices = contents (afterFetch s n cmd o).notices :=
  (decisionKeeps_released _).contents

/-- The other members stay, but for those ABSENT at the decision (R126). -/
theorem fetchEnd_other_members (s : State) {n : NodeId} (cmd : Command) (o : SegOutcome) {m : Member} (hm : m.node ≠ n) :
    (m ∈ (fetchEnd s n cmd o).attn.members → m ∈ s.attn.members) ∧
      (m ∈ s.attn.members → ((fetchEnd s n cmd o).node m.node).presence ≠ .absent →
        m ∈ (fetchEnd s n cmd o).attn.members) := by
  have same : m ∈ (afterFetch s n cmd o).attn.members ↔ m ∈ s.attn.members := by
    unfold afterFetch
    rw [mem_fetchOutcome_iff_of_ne _ n o hm, beforeFetch_attn]
  exact ⟨fun h => same.mp (released_members_subset h), fun h => released_keeps_member (same.mpr h)⟩

/-- EMPTY, REFUSE and NO_RESPONSE take the node off the set and leave its fetch state (R135). -/
theorem fetchEnd_dropped (ht : cmd.target = .node n) (h : o = .empty ∨ (∃ r : Byte, o = .refuse r) ∨ o = .noResponse) :
    (fetchEnd s n cmd o).attn.has n = false ∧
      ((fetchEnd s n cmd o).node n).fetchEligible = (s.node n).fetchEligible ∧
      ((fetchEnd s n cmd o).node n).fetchToggle = (s.node n).fetchToggle := by
  have hout : afterFetch s n cmd o = _ := fetchOutcome_of_dropped _ n h
  obtain ⟨htoggle, heligible⟩ := take_keeps_fetch (s.node n) cmd.kind s.params.silenceLimit o
  have hnode : (fetchEnd s n cmd o).node n = (s.node n).take cmd.kind s.params.silenceLimit o := by
    rw [fetchEnd_node, hout, ← beforeFetch_node o ht]; rfl
  refine ⟨Bool.eq_false_iff.mpr fun hhas => ?_, by rw [hnode, heligible], by rw [hnode, htoggle]⟩
  obtain ⟨m, hm, hmn⟩ := (has_iff_exists_member _ n).mp hhas
  have hleft := released_members_subset hm
  rw [hout] at hleft
  exact ((mem_remove_iff _ n m).mp hleft).2 hmn

/-- WAIT and GARBLED start the fetch eligible time and write the mark (R136). -/
theorem fetchEnd_retried (ht : cmd.target = .node n) (h : o = .wait ∨ o = .garbled) :
    ((fetchEnd s n cmd o).node n).fetchEligible = some s.params.retryGap ∧
      ((fetchEnd s n cmd o).node n).fetchToggle = (s.node n).fetchToggle ∧
      (s.attn.has n = true → ((fetchEnd s n cmd o).node n).presence ≠ .absent →
        (fetchEnd s n cmd o).attn.has n = true) ∧
      ∀ m ∈ (fetchEnd s n cmd o).attn.members, m.node = n → m.repeatMark = decide (o = .garbled) := by
  have hout : afterFetch s n cmd o = _ := fetchOutcome_of_retried _ n h
  have hattn : (afterFetch s n cmd o).attn = s.attn.setMark n (decide (o = .garbled)) := by
    rw [hout, State.fetchRetry_attn, beforeFetch_attn]
  have hnode : (fetchEnd s n cmd o).node n =
      { (s.node n).take cmd.kind s.params.silenceLimit o with fetchEligible := some s.params.retryGap } := by
    rw [fetchEnd_node, hout, ← beforeFetch_node o ht, ← beforeFetch_params s cmd o]
    exact node_setNode_self _ n _
  rw [hnode]
  refine ⟨rfl, (take_keeps_fetch _ _ _ o).1, fun hhas hp => ?_, fun m hm => ?_⟩
  · rw [← hnode] at hp
    exact released_keeps_has (by rw [hattn, setMark_has, hhas]) hp
  · have hleft := released_members_subset hm
    rw [hattn] at hleft
    exact repeatMark_of_mem_setMark hleft

/-- Only a REPORT enters the Notice Queue (R133). -/
theorem fetchEnd_contents_kept (hc : HeadChecked s)
    (h : o = .empty ∨ (∃ r : Byte, o = .refuse r) ∨ o = .wait ∨ o = .garbled) :
    contents (fetchEnd s n cmd o).notices = contents s.notices := by
  have ho : o ≠ .noResponse := by rcases h with rfl | ⟨r, rfl⟩ | rfl | rfl <;> exact nofun
  rw [fetchEnd_contents, ← beforeFetch_notices (cmd := cmd) hc ho]
  rcases h with rfl | ⟨r, rfl⟩ | rfl | rfl <;> rfl

/-! ### A REPORT (R133, R134, R145, R148) -/

section Report

variable (hc : HeadChecked s) (ht : cmd.target = .node n) (more : Bool) (code : Byte) (data : List Byte)

include hc ht

/-- With room the REPORT is the newest notice, and the node's toggle and membership follow (R133). -/
theorem fetchEnd_report_entered (room : s.notices.queue.length < 24) :
    let t := fetchEnd s n cmd (.report more code data)
    contents t.notices = contents s.notices ++ [(s.notices.next, .report n code data)] ∧
      t.notices.next = s.notices.next + 1 ∧ t.notices.lostFaults = s.notices.lostFaults ∧
      t.node n = { s.node n with presence := .present, silence := 0, fetchToggle := !(s.node n).fetchToggle } ∧
      (more = false → ∀ m ∈ t.attn.members, m.node ≠ n) ∧
      (more = true → s.attn.has n = true → t.attn.has n = true) ∧
      ∀ m ∈ t.attn.members, m.node = n → m.repeatMark = false := by
  intro t
  have hnotices : (beforeFetch s cmd (.report more code data)).notices = s.notices := beforeFetch_notices hc nofun
  have hout : afterFetch s n cmd (.report more code data) = _ :=
    fetchOutcome_of_room _ n more code data (by rw [hnotices]; exact room)
  have hattn : (afterFetch s n cmd (.report more code data)).attn =
      if more then s.attn.setMark n false else s.attn.remove n := by
    rw [hout, State.reportEntered_attn, beforeFetch_attn]
  have hnode : t.node n =
      { s.node n with presence := .present, silence := 0, fetchToggle := !(s.node n).fetchToggle } := by
    rw [fetchEnd_node, hout]
    exact (node_setNode_self _ n _).trans (by rw [beforeFetch_node _ ht]; rfl)
  have hblock : (afterFetch s n cmd (.report more code data)).notices = s.notices.enterReport n code data := by
    rw [hout, State.reportEntered_notices, hnotices]
  obtain ⟨hnext, hlost⟩ := released_numbers (afterFetch s n cmd (.report more code data))
  rw [hblock] at hnext hlost
  have member (m : Member) (hm : m ∈ t.attn.members) :
      m ∈ (if more then s.attn.setMark n false else s.attn.remove n).members :=
    hattn ▸ released_members_subset hm
  refine ⟨?_, hnext, hlost, hnode, ?_, ?_, ?_⟩
  · rw [fetchEnd_contents, hblock, enterReport_contents]
  · rintro rfl m hm
    exact ((mem_remove_iff _ n m).mp (member m hm)).2
  · rintro rfl hhas
    refine released_keeps_has (by rw [hattn, if_pos rfl, setMark_has, hhas]) ?_
    show (t.node n).presence ≠ .absent
    rw [hnode]; exact nofun
  · intro m hm hmn
    have hleft := member m hm
    split at hleft
    · exact repeatMark_of_mem_setMark hleft hmn
    · exact absurd hmn ((mem_remove_iff _ n m).mp hleft).2

/-- With a full queue the REPORT is not entered, and the member's repeat mark asks for it again (R134, R148). -/
theorem fetchEnd_report_full (full : 24 ≤ s.notices.queue.length) :
    let t := fetchEnd s n cmd (.report more code data)
    contents t.notices = contents s.notices ∧ t.notices.lostFaults = s.notices.lostFaults ∧
      t.node n = { s.node n with presence := .present, silence := 0 } ∧
      (s.attn.has n = true → t.attn.has n = true) ∧
      ∀ m ∈ t.attn.members, m.node = n → m.repeatMark = true := by
  intro t
  have hnotices : (beforeFetch s cmd (.report more code data)).notices = s.notices := beforeFetch_notices hc nofun
  have hout : afterFetch s n cmd (.report more code data) = _ :=
    fetchOutcome_of_full _ n more code data (by rw [hnotices]; exact full)
  have hattn : (afterFetch s n cmd (.report more code data)).attn =
      s.attn.setMark n true := by
    rw [hout, beforeFetch_attn]
  have hnode : t.node n = { s.node n with presence := .present, silence := 0 } := by
    rw [fetchEnd_node, hout]
    exact beforeFetch_node _ ht
  refine ⟨?_, ?_, hnode, fun hhas => ?_, fun m hm => ?_⟩
  · rw [fetchEnd_contents, hout, hnotices]
  · exact (released_numbers _).2.trans (by rw [hout, hnotices])
  · refine released_keeps_has (by rw [hattn, setMark_has, hhas]) ?_
    show (t.node n).presence ≠ .absent
    rw [hnode]; exact nofun
  · have hleft := released_members_subset hm
    rw [hattn] at hleft
    exact repeatMark_of_mem_setMark hleft

end Report

end FetchEnd

/-! ### The statement -/

/-- The head byte of a REPORT holds the count and the more-flag (R195). -/
theorem reportHead_fields (more : Bool) {k : Nat} (h : k ≤ 16) :
    (byte k ||| (if more then 0x80 else 0)).toNat % 32 = k ∧
      (byte k ||| (if more then 0x80 else 0)).getLsbD 7 = more := by
  have fields : ∀ (more : Bool) (k : Fin 17), (byte k.val ||| (if more then 0x80 else 0)).toNat % 32 = k.val ∧
      (byte k.val ||| (if more then 0x80 else 0)).getLsbD 7 = more := by decide
  exact fields more ⟨k, by omega⟩

/-- The characters of a REPORT end the FETCH with it (R94, R96). -/
theorem ends_of_report {s : State} {x : Transaction} {more : Bool} {code : Byte} {data : List Byte} {chars : List RxChar}
    (hi : InPhase s x .receiving) (hk : x.cmd.kind = .fetch) (hlen : data.length ≤ 16)
    (hchars : x.received ++ chars =
      responseChars 0x85 ((byte data.length ||| (if more then 0x80 else 0)) :: code :: data)) :
    Ends s x (.responseEnd chars) (.report more code data) := by
  obtain ⟨hh, hx, hp⟩ := hi
  obtain ⟨hcount, hmore⟩ := reportHead_fields more hlen
  have permitted : Permitted x.cmd 0x85 ((byte data.length ||| (if more then 0x80 else 0)) :: code :: data)
      (.report more code data) :=
    .inr (.inr (.inr (.inr (.inl ⟨rfl, hk, _, code, data, rfl, hlen, hcount, by rw [hmore]⟩))))
  exact ⟨hh, hx, .inr (.inr (.inr ⟨hp, _, _, chars, rfl, hchars, permitted⟩))⟩

/-- Every other node's record is as it was (R109). -/
theorem fetchEnd_other_nodes {s : State} {x : Transaction} {n : NodeId} {c : Instr} {o : SegOutcome} (h : Ends s x c o)
    (hr : x.requester = .c) (ht : x.cmd.target = .node n) {k : NodeId} (hk : k ≠ n) :
    (fetchEnd s n x.cmd o).node k = s.node k := by
  have same : fetchEnd s n x.cmd o = (State.deliver { s with counters := endCounted s.counters o } x o).arbitrate :=
    Host.Outcome.next.inj ((exec_of_fetch_ends h hr ht).symm.trans (exec_of_ends_counted h))
  rw [same]
  exact (deliver_nodes_at_end { s with counters := endCounted s.counters o } o ht).2 k hk

/-- Settles O43: a REPORT by the room in the queue, then every end of a FETCH by its outcome. -/
theorem reportEntersNoticeQueue : Obligations.ReportEntersNoticeQueue := by
  refine ⟨fun s x n more code data chars hi hr hk ht hc hlen hchars => ?_, fun s x n c o h hr _ ht => ?_⟩
  · have h := ends_of_report hi hk hlen hchars
    exact ⟨_, exec_of_fetch_ends h hr ht, fun k hkn => fetchEnd_other_nodes h hr ht hkn,
      fetchEnd_report_entered hc ht more code data, fetchEnd_report_full hc ht more code data⟩
  · refine ⟨_, exec_of_fetch_ends h hr ht, fetchEnd_dropped ht, fetchEnd_retried ht, fun m hm => ?_,
      fetchEnd_contents_kept⟩
    obtain ⟨added, kept⟩ := fetchEnd_other_members s x.cmd o hm
    rw [fetchEnd_other_nodes h hr ht hm] at kept
    exact ⟨added, kept⟩

end Sys2Proof.AttentionUnit
end

section
/-!
The Notice Block's two ways back: the resend deadline's expiry and the BREAK, which both make the SENT entries UNSENT
(R155, R156, R171 to R173).
-/

namespace Sys2Proof.Notices

open Sys2Proof.Machine Sys2Proof.Safety

/-! ### The resend deadline (R155) -/

theorem exec_resendExpiry {s : State} {g : Nat} (hh : s.held = none) (running : s.notices.resend = some g) :
    exec .resendExpiry s = .next (State.arbitrate { s with notices := s.notices.rewind }) := by
  show Host.Outcome.next _ = _
  rw [State.event_of_running hh, State.resendEnds, if_pos (by rw [running]; rfl)]

/-- Settles O53: the deadline was running, so the queue is rewound and the arbiter decides. -/
theorem resendExpiryRewinds : Obligations.ResendExpiryRewinds :=
  fun _ _ hh running => exec_resendExpiry hh running

/-! ### BREAK (R156, R171 to R173) -/

/-- In HUNT the low period's character is no start character, and no gap is measured (R161, R171). -/
theorem lowPeriod_of_hunt {s : State} (h : s.link.framer = .hunt) : s.lowPeriod = s := by
  have char : s.takeChar 0 = { s with link := { s.link with framer := .hunt } } := by
    rw [State.takeChar, h]
    rfl
  have same : s.takeChar 0 = s := by rw [char, ← h]
  rw [State.lowPeriod, same, State.frameGap, if_pos h]

theorem exec_lineBreak {s : State} (lspd : BitVec 2) (hh : s.held = none) :
    exec (.lineBreak lspd) s = .next (s.lowPeriod.breakReset lspd).arbitrate :=
  congrArg Host.Outcome.next (State.event_of_running hh _)

/-- The low period takes no PART_RESET, so the BREAK ends in the link reset (R172). -/
theorem breakReset_of_not_stopped {s : State} (lspd : BitVec 2) (h : s.link.stopped = false) :
    s.lowPeriod.breakReset lspd = s.lowPeriod.linkReset := by
  rw [State.breakReset, State.lowPeriod_link_stopped, h]
  rfl

/-- With a PART_RESET taken the part reset follows the link reset, and all it keeps is the outside world's: the level of
SEG_ATTN and the waiting commands (R173; notes/assumptions/23.md). -/
theorem breakReset_of_stopped {s : State} (lspd : BitVec 2) (h : s.link.stopped = true) :
    s.lowPeriod.breakReset lspd = (State.afterPartReset .request lspd s.segAttn s.pending).arbitrate := by
  rw [State.breakReset, State.lowPeriod_link_stopped, h, if_pos rfl, State.partReset, State.linkReset_segAttn,
    State.linkReset_pending, State.lowPeriod_segAttn, State.lowPeriod_pending]

/-- What the low period did to the link is gone after the link reset: it keeps what the reset keeps (R172). -/
theorem lowPeriod_linkReset_link (s : State) : s.lowPeriod.linkReset.link = s.linkReset.link := by
  simp only [State.linkReset_link, State.lowPeriod_link_helloOffered, State.lowPeriod_link_resetCause,
    State.lowPeriod_link_lspd, State.lowPeriod_link_stopped]

theorem rewind_all_unsent (b : NoticeBlock) : ∀ e ∈ b.rewind.queue, e.state = .unsent := by
  simp

/-- Settles O30: by whether a PART_RESET has been taken, which the low period leaves as it was. -/
theorem breakResetsLink : Obligations.BreakResetsLink := by
  intro s lspd hh
  refine ⟨fun running => ?_, fun stopped => ?_⟩
  · refine ⟨s.lowPeriod.linkReset, ?_, lowPeriod_linkReset_link s, rewind_all_unsent _, rfl, s.lowPeriod_pwq,
      s.lowPeriod_drt, s.lowPeriod_sched, s.lowPeriod_engine, s.lowPeriod_seg, s.lowPeriod_segRst, s.lowPeriod_nodes,
      s.lowPeriod_attn, s.lowPeriod_params, fun hunt => ?_⟩
    · rw [exec_lineBreak lspd hh, breakReset_of_not_stopped lspd running]
    · rw [lowPeriod_of_hunt hunt]
      exact ⟨rfl, rfl⟩
  · rw [exec_lineBreak lspd hh, breakReset_of_stopped lspd stopped, State.arbitrate_arbitrate]

end Sys2Proof.Notices
end

section
/-!
The outbound arbiter on a transmitter that is idle: which of the offers it takes, and what taking it leaves (R149, R150,
R158, R159, R169, R170).
-/

namespace Sys2Proof.OutboundArbiter

open Sys2Proof.Machine Sys2Proof.Safety

/-! ### The notice on offer (R149, R150) -/

/-- With the window open the oldest UNSENT entry is on offer (R149). -/
theorem offer_of_first_unsent {b : NoticeBlock} {window : Nat} {before after : List Notice} {e : Notice}
    (hq : b.queue = before ++ e :: after) (he : e.state = .unsent) (hsent : ∀ x ∈ before, x.state = .sent)
    (hopen : b.sentCount < window) : b.offer window = some e := by
  rw [NoticeBlock.offer, if_pos hopen, hq, find_unsent hsent he]

/-- No notice is on offer once every entry is SENT or the window is full (R149). -/
theorem offer_eq_none {b : NoticeBlock} {window : Nat}
    (h : (∀ e ∈ b.queue, e.state = .sent) ∨ window ≤ b.sentCount) : b.offer window = none := by
  unfold NoticeBlock.offer
  split
  · next hopen =>
    have allSent := h.resolve_right (Nat.not_le.mpr hopen)
    exact List.find?_eq_none.mpr fun e he => by simp [allSent e he]
  · rfl

/-- The entry taken becomes SENT with its send count raised, and the resend deadline runs from now on (R150). -/
theorem takeNotice_of_first_unsent {b : NoticeBlock} {before after : List Notice} {e : Notice} (resendTime : Nat)
    (hq : b.queue = before ++ e :: after) (he : e.state = .unsent) (hsent : ∀ x ∈ before, x.state = .sent) :
    b.takeNotice resendTime =
      { b with queue := before ++ e.taken :: after, resend := some (b.resend.getD resendTime) } := by
  unfold NoticeBlock.takeNotice
  rw [hq, takeFirstUnsent_split hsent he]
  cases b.resend with
  | none => rfl
  | some t => rfl

/-! ### What is taken behind HELLO and LINK_NAK (R169) -/

/-- No place is ANSWERED, so no answer is on offer (R169). -/
def NoAnswer (l : Link) : Prop := ∀ p ∈ l.places, ∀ b : StoredAnswer, p.state ≠ .answered b

theorem sendWaiting_of_answer {s : State} {before after : List Place} {f : Frame} {a : StoredAnswer}
    (hp : s.link.places = before ++ { frame := f, state := .answered a } :: after)
    (hfirst : ∀ p ∈ before, ∀ b : StoredAnswer, p.state ≠ .answered b) :
    s.sendWaiting = s.sendAnswer a (before ++ { frame := f, state := .sending a } :: after) := by
  rw [State.sendWaiting, hp, sendFirstAnswer_split hfirst]

theorem sendWaiting_of_notice {s : State} {e : Notice} (hp : NoAnswer s.link)
    (ho : s.notices.offer s.params.noticeWindow = some e) : s.sendWaiting = s.sendNotice e := by
  rw [State.sendWaiting, sendFirstAnswer_none hp, ho]

theorem sendWaiting_of_no_notice {s : State} (hp : NoAnswer s.link)
    (ho : s.notices.offer s.params.noticeWindow = none) : s.sendWaiting = s.sendReadyHint := by
  rw [State.sendWaiting, sendFirstAnswer_none hp, ho]

theorem sendReadyHint_of_empty {s : State} (h : s.notices.ready = []) : s.sendReadyHint = s := by
  rw [State.sendReadyHint, h]
  rfl

/-- The first hint of the Ready List is taken (R159; notes/assumptions/18.md). -/
theorem sendReadyHint_of_first {s : State} {i : SlotId} {rest : List SlotId} {sl : Slot}
    (h : s.notices.ready = i :: rest) (hs : s.slot i = some sl) : s.sendReadyHint = s.sendHint i sl := by
  simp only [State.sendReadyHint, h, List.head?_cons, hs]

/-! ### The decision (R169) -/

theorem arbitrate_of_hello {s : State} (hh : s.held = none) (ht : s.link.tx = none)
    (hello : s.link.helloOffered = true) : s.arbitrate = s.sendHello := by
  rw [State.arbitrate_of_idle hh ht, if_pos hello]

theorem arbitrate_of_nak {s : State} (hh : s.held = none) (ht : s.link.tx = none)
    (hello : s.link.helloOffered = false) (nak : s.link.nakPending = true) : s.arbitrate = s.sendNak := by
  rw [State.arbitrate_of_idle hh ht, hello, if_neg Bool.false_ne_true, if_pos nak]

theorem arbitrate_of_waiting {s : State} (hh : s.held = none) (ht : s.link.tx = none)
    (hello : s.link.helloOffered = false) (nak : s.link.nakPending = false) : s.arbitrate = s.sendWaiting := by
  rw [State.arbitrate_of_idle hh ht, hello, nak]
  rfl

/-- The LINK_NAK frame carries the newest placed sequence, or none (R163, R191). -/
theorem sendNak_eq (s : State) : s.sendNak = { s with link := { s.link with
    nakPending := false
    tx := some { kind := .linkNak
                 bytes := frameBytes 0 0x82 (match s.link.newestPlaced with
                   | some b => [1, b]
                   | none => [0, 0]) } } } := by
  unfold State.sendNak
  cases s.link.newestPlaced with
  | none => rfl
  | some b => rfl

/-- Settles O27: each offer in the order of R169, on the transmitter that is idle. -/
theorem arbiterPreference : Obligations.ArbiterPreference := by
  intro s hh
  refine ⟨State.arbitrate_of_busy, arbitrate_of_hello hh, fun ht hello nak => ?_, fun ht hello nak => ?_⟩
  · exact (arbitrate_of_nak hh ht hello nak).trans (sendNak_eq s)
  · rw [arbitrate_of_waiting hh ht hello nak]
    refine ⟨fun before after f a hp hfirst => sendWaiting_of_answer hp hfirst, fun hp => ⟨?_, fun hno => ?_⟩⟩
    · intro before after e hq he hsent hopen e'
      rw [sendWaiting_of_notice hp (offer_of_first_unsent hq he hsent hopen), State.sendNotice,
        takeNotice_of_first_unsent s.params.resendTime hq he hsent]
      rfl
    · rw [sendWaiting_of_no_notice hp (offer_eq_none hno)]
      exact ⟨sendReadyHint_of_empty, fun i rest sl => sendReadyHint_of_first⟩

end Sys2Proof.OutboundArbiter
end

section
/-!
NOTICE_ACK as the dispatcher executes it: the distance of R152 on a queue of consecutive numbers finds the entry named,
and the entries through it leave (R68, R143, R152, R153).
-/

namespace Sys2Proof.NoticeAck

open Sys2Proof.Machine Sys2Proof.Safety

/-! ### The distance of a number (R143, R152) -/

/-- An entry is numbered as far before the next number as it stands before the queue's end (R143). -/
theorem number_eq_next_sub {b : NoticeBlock} (h : NoticesOk b) {before after : List Notice} {e : Notice}
    (hq : b.queue = before ++ e :: after) : e.number = b.next - BitVec.ofNat 16 (after.length + 1) := by
  obtain ⟨-, hnum, -, -, -⟩ := h
  have place : (b.queue.map (·.number))[before.length]? = some e.number := by simp [hq]
  have left : before.length + (after.length + 1) - before.length = after.length + 1 := by omega
  rw [hnum, hq, List.length_append, List.length_cons, numbersBefore, List.getElem?_map,
    List.getElem?_range (by omega), Option.map_some, left] at place
  exact (Option.some.inj place).symm

/-- The distance of an entry's number counts the entry and those behind it (R152). -/
theorem ackDistance_of_entry {s : State} (h : NoticesOk s.notices) {before after : List Notice} {e : Notice}
    (hq : s.notices.queue = before ++ e :: after) : s.ackDistance e.number = after.length + 1 := by
  have short : after.length + 1 ≤ 24 := by
    have most : s.notices.queue.length ≤ 24 := h.1
    rw [hq, List.length_append, List.length_cons] at most
    omega
  rw [State.ackDistance, number_eq_next_sub h hq, sub_sub_cancel, BitVec.toNat_ofNat]
  omega

/-- A distance of 1 to the occupancy is that of an entry (R143, R152). -/
theorem entry_of_ackDistance {s : State} {n : Half} (h : NoticesOk s.notices) (h₁ : 1 ≤ s.ackDistance n)
    (hk : s.ackDistance n ≤ s.notices.queue.length) : ∃ e ∈ s.notices.queue, e.number = n := by
  have place : s.notices.queue.length - s.ackDistance n < s.notices.queue.length := by omega
  refine ⟨s.notices.queue[s.notices.queue.length - s.ackDistance n], List.getElem_mem place, ?_⟩
  have parts := List.take_append_drop (s.notices.queue.length - s.ackDistance n) s.notices.queue
  rw [List.drop_eq_getElem_cons place] at parts
  rw [number_eq_next_sub h parts.symm, List.length_drop]
  have rest : s.notices.queue.length - (s.notices.queue.length - s.ackDistance n + 1) + 1 = s.ackDistance n := by omega
  rw [rest, State.ackDistance, BitVec.ofNat_toNat, BitVec.setWidth_eq, sub_sub_cancel]

/-- The entry found at its own distance (R152). -/
theorem sentAt_of_entry {s : State} {before after : List Notice} {e : Notice}
    (hq : s.notices.queue = before ++ e :: after) : s.sentAt (after.length + 1) = (e.state == .sent) := by
  have place : (before ++ e :: after).length - (after.length + 1) = before.length := by simp
  rw [State.sentAt, hq, place]
  simp

/-! ### The entries that leave (R68, R153) -/

/-- A slot's record when these entries have left: a data notice stamp that names one of them is none (R68). -/
def stampForgets (gone : List Notice) (sl : Slot) : Slot :=
  if gone.any (fun x => decide (sl.dataStamp = .held x.number)) then { sl with dataStamp := .clear } else sl

theorem forgetNotices_eq (gone : List Notice) :
    Slot.forgetNotices (gone.map (·.number)) = stampForgets gone := by
  funext sl
  unfold Slot.forgetNotices stampForgets
  cases hs : sl.dataStamp with
  | absent => simp
  | clear => simp
  | held k =>
    have named : (gone.map (·.number)).contains k =
        gone.any fun x => decide (NoticeStamp.held k = .held x.number) := by
      simp only [List.contains_eq_any_beq, List.any_map, Function.comp_def, beq_eq_decide, NoticeStamp.held.injEq]
    simp only [named]

/-- s when gone has left the front of the queue and left is what it still holds (R68, R153). -/
def noticesLeave (s : State) (gone left : List Notice) : State :=
  { s with
    notices := { s.notices with
      queue := left
      resend := if left.any (fun x => x.state == .sent) then some s.params.resendTime else none }
    drt := { s.drt with slots := s.drt.slots.map (Option.map (stampForgets gone)) } }

/-- The entries leave, and the scheduler decides when the occupancy falls to the gate of candidate C (R76, R77, R153;
notes/assumptions/7.md). -/
theorem removeNotices_of_split {s : State} {gone left : List Notice} (hq : s.notices.queue = gone ++ left) :
    s.removeNotices gone.length =
      if 19 < s.notices.queue.length ∧ left.length ≤ 19 then (noticesLeave s gone left).schedule
      else noticesLeave s gone left := by
  have remaining : s.notices.queue.length - gone.length = left.length := by simp [hq]
  have leaves :
      { s with
        notices := s.notices.removeFirst gone.length s.params.resendTime
        drt := s.drt.mapSlots (Slot.forgetNotices ((s.notices.queue.take gone.length).map (·.number))) } =
      noticesLeave s gone left := by
    rw [NoticeBlock.removeFirst, hq, List.take_left, List.drop_left, forgetNotices_eq]
    rfl
  unfold State.removeNotices
  rw [remaining, leaves]
  rfl

/-! ### The table of R152 -/

/-- An entry is acknowledged when it is SENT; an UNSENT one is refused (R152, R153). -/
theorem acknowledge_of_entry {s : State} (h : NoticesOk s.notices) {before after : List Notice} {e : Notice}
    (hq : s.notices.queue = before ++ e :: after) :
    s.acknowledge e.number =
      if e.state = .sent then (s.removeNotices (before.length + 1), .doneAck (before.length + 1) after.length)
      else (s, .refused .ackRange) := by
  have held : s.notices.queue.length = before.length + (after.length + 1) := by simp [hq]
  have gone : s.notices.queue.length - (after.length + 1) + 1 = before.length + 1 := by omega
  simp only [State.acknowledge, ackDistance_of_entry h hq, sentAt_of_entry hq, gone, Nat.add_sub_cancel, beq_iff_eq]
  rw [if_pos (by omega)]

/-- The number of no entry is an older one, or one not yet issued (R152). -/
theorem acknowledge_of_no_entry {s : State} {n : Half} (h : NoticesOk s.notices)
    (hn : ∀ e ∈ s.notices.queue, e.number ≠ n) :
    s.acknowledge n =
      (s, if 1 ≤ s.ackDistance n ∧ s.ackDistance n ≤ 32768 then .doneAck 0 s.notices.queue.length
          else .refused .ackRange) := by
  have outside : ¬ (1 ≤ s.ackDistance n ∧ s.ackDistance n ≤ s.notices.queue.length) := by
    rintro ⟨h₁, hk⟩
    obtain ⟨e, he, hnum⟩ := entry_of_ackDistance h h₁ hk
    exact hn e he hnum
  have older : s.notices.queue.length < s.ackDistance n ∧ s.ackDistance n ≤ 32768 ↔
      1 ≤ s.ackDistance n ∧ s.ackDistance n ≤ 32768 := by omega
  simp only [State.acknowledge, if_neg outside, older]
  split
  · rfl
  · rfl

theorem exec_noticeAck {s : State} {seq : Byte} {n : Half} (hx : Executes s seq 0x20 (halfBytes n)) :
    exec (.noticeAck seq (halfBytes n)) s = .next (answered (s.acknowledge n).1 seq 0x20 (s.acknowledge n).2) :=
  congrArg Host.Outcome.next
    (request_parsed hx State.acknowledge (congrArg some (half_split n)))

/-- Settles O16: the number is that of an entry, by its state, or of none, by the distance. -/
theorem noticeAckTable : Obligations.NoticeAckTable := by
  intro s seq n hx h
  rw [exec_noticeAck hx]
  refine ⟨fun before after e hq hnum => ?_, fun hn => ?_⟩
  · rw [← hnum, acknowledge_of_entry h hq]
    refine ⟨fun unsent => ?_, fun sent => ?_⟩
    · rw [if_neg (by simp [unsent])]
    · have parts : s.notices.queue = (before ++ [e]) ++ after := by rw [hq, List.append_assoc]; rfl
      have leave := removeNotices_of_split parts
      rw [List.length_append] at leave
      rw [if_pos sent]
      exact congrArg (fun u => Host.Outcome.next (answered u seq 0x20 _)) leave
  · rw [acknowledge_of_no_entry h hn]
    rfl

end Sys2Proof.NoticeAck
end

section
/-!
The form of the host link is kept by every step. It is read off the buffer's places and the replay store alone: a place is
taken only by a good frame that finds room, and the store grows only by an answer whose sequence it does not hold (R164 to
R167).
-/

namespace Sys2Proof.HostLink

open Sys2Proof.Machine Sys2Proof.Safety

/-! ### The places (R164, R166, R169) -/

/-- Answering rewrites a place and takes none (R166). -/
theorem answerFirst_length (a : StoredAnswer) (places : List Place) : (answerFirst a places).length = places.length := by
  induction places with
  | nil => rfl
  | cons p rest ih =>
    unfold answerFirst
    split
    · rfl
    · rw [List.length_cons, ih, List.length_cons]

/-- Sending an answer rewrites its place and takes none (R169). -/
theorem sendFirstAnswer_length {places : List Place} {r : StoredAnswer × List Place}
    (h : sendFirstAnswer places = some r) : r.2.length = places.length := by
  induction places generalizing r with
  | nil => cases h
  | cons p rest ih =>
    have later : ∀ r, (sendFirstAnswer rest).map (fun q => (q.1, p :: q.2)) = some r →
        r.2.length = (p :: rest).length := by
      intro r hr
      obtain ⟨q, hq, rfl⟩ := Option.map_eq_some_iff.mp hr
      rw [List.length_cons, ih hq, List.length_cons]
    unfold sendFirstAnswer at h
    cases hp : p.state with
    | answered a =>
      rw [hp] at h
      obtain rfl := Option.some.inj h
      rfl
    | waiting => rw [hp] at h; exact later r h
    | sending a => rw [hp] at h; exact later r h

theorem arbitrate_places_length (s : State) : s.arbitrate.link.places.length = s.link.places.length := by
  rcases s.arbitrate_cases with h | h | h | ⟨r, hr, h⟩ | ⟨e, -, h⟩ | ⟨i, rest, sl, -, -, h⟩
  case inr.inr.inr.inl => rw [h]; exact sendFirstAnswer_length hr
  all_goals simp [h]

/-! ### The store (R166, R167) -/

theorem stored_eq_none_iff (l : Link) (seq : Byte) : l.stored seq = none ↔ seq ∉ l.store.map (·.seq) := by
  simp [Link.stored, List.find?_eq_none]

/-- The store holds eight answers at most, whatever it held before (R167). -/
theorem enterAnswer_length_le (store : List StoredAnswer) (a : StoredAnswer) : (enterAnswer store a).length ≤ 8 := by
  simp only [enterAnswer, Config.storedAnswers, List.length_append, List.length_drop, List.length_singleton]
  omega

/-- An answer of a new sequence leaves the sequences distinct (R166, R167). -/
theorem enterAnswer_nodup {store : List StoredAnswer} {a : StoredAnswer} (h : (store.map (·.seq)).Nodup)
    (hnew : a.seq ∉ store.map (·.seq)) : ((enterAnswer store a).map (·.seq)).Nodup := by
  have left := List.drop_sublist (store.length + 1 - Config.storedAnswers) (store.map (·.seq))
  rw [enterAnswer, List.map_append, List.map_drop, List.map_singleton]
  exact (h.sublist left).append (List.nodup_singleton _)
    (List.disjoint_singleton.mpr fun hm => hnew (left.subset hm))

/-! ### What keeps the form -/

/-- The buffer and the store of the part are in their bounds (R164, R167). -/
def LinkForm (s : State) : Prop := LinkOk s.link

namespace LinkForm

variable {s t : State}

/-- No place is taken, and the store stays. -/
theorem of_places (h : LinkForm s) (hp : t.link.places.length ≤ s.link.places.length)
    (hs : t.link.store = s.link.store) : LinkForm t := by
  obtain ⟨places, store, distinct⟩ := h
  refine ⟨hp.trans places, ?_, ?_⟩
  · rw [hs]; exact store
  · rw [hs]; exact distinct

/-- An update of other blocks. -/
theorem aside (h : LinkForm s) (hl : t.link = s.link) : LinkForm t :=
  h.of_places (by rw [hl]) (by rw [hl])

theorem arbitrate (h : LinkForm s) : LinkForm s.arbitrate :=
  h.of_places (arbitrate_places_length s).le s.arbitrate_link_store

theorem giveAnswer {seq : Byte} (type : Byte) (a : Answer) (hnew : s.link.stored seq = none) (h : LinkForm s) :
    LinkForm (s.giveAnswer seq type a) := by
  obtain ⟨places, -, distinct⟩ := h
  refine ⟨?_, enterAnswer_length_le _ _, enterAnswer_nodup distinct ((stored_eq_none_iff _ _).mp hnew)⟩
  rw [State.giveAnswer_link, answerFirst_length]
  exact places

/-- A good frame takes a place while one of the four is free (R164, R165). -/
theorem goodFrame (f : Frame) (h : LinkForm s) : LinkForm (s.goodFrame f) := by
  unfold State.goodFrame
  split
  · next room =>
    obtain ⟨-, store, distinct⟩ := h
    refine ⟨?_, store, distinct⟩
    simp only [State.placeFrame_link, List.length_append, List.length_singleton]
    exact room
  · exact h.of_places le_rfl rfl

theorem badFrame (h : LinkForm s) : LinkForm s.badFrame := h.of_places le_rfl rfl

theorem takeChar (b : Byte) (h : LinkForm s) : LinkForm (s.takeChar b) := by
  unfold State.takeChar
  split
  · exact h.of_places le_rfl rfl
  · exact h.badFrame.arbitrate
  · exact (h.goodFrame _).arbitrate
  · exact h.badFrame.arbitrate

theorem frameGap (h : LinkForm s) : LinkForm s.frameGap := by
  unfold State.frameGap
  split
  · exact h
  · exact h.badFrame.arbitrate

theorem linkReset (s : State) : LinkForm s.linkReset := ⟨Nat.zero_le _, Nat.zero_le _, List.nodup_nil⟩

theorem afterPartReset (cause : ResetCause) (lspd : BitVec 2) (level : Bool) (l : List Instr) :
    LinkForm (State.afterPartReset cause lspd level l) := ⟨Nat.zero_le _, Nat.zero_le _, List.nodup_nil⟩

/-- The middle operations keep the form: the other blocks' leave the link as it is. -/
theorem kept : Kept LinkForm where
  pendingFree _ _ h := h
  segAttnFree _ _ h := h
  arbitrate _ h := h.arbitrate
  replayAnswer _ _ h := h.of_places (answerFirst_length _ _).le rfl
  giveAnswer _ _ type a hnew h := h.giveAnswer type a hnew
  takeChar _ b h := h.takeChar b
  frameGap _ h := h.frameGap
  linkReset s _ := linkReset s
  partReset := afterPartReset
  frameSent _ _ _ _ fewer h := h.of_places fewer.length_le rfl
  postWrite s seq a h := h.aside (s.postWrite_link seq a)
  broadcastWrite s seq a h := h.aside (s.broadcastWrite_link seq a)
  takeDelayed s req notify h := h.aside (s.takeDelayed_link req notify)
  cancel s i h := h.aside (s.cancel_link i)
  acknowledge s n h := h.aside (s.acknowledge_link n)
  setNode _ _ _ h := h
  storeParam _ _ _ _ h := h
  segmentReset s h := h.aside s.segmentReset_link
  requestReset _ h := h
  schedule s h := h.aside s.schedule_link
  holdExpires s _ h := h.aside s.holdExpires_link
  enterRunning s _ h := h.aside s.enterRunning_link
  engine _ _ _ h := h
  counters _ _ h := h
  deliver s x o _ h := h.aside (s.deliver_link x o)
  windowEnds s x _ h := h.aside (s.windowEnds_link x)
  trainEnds s starts _ h := h.aside (s.trainEnds_link starts)
  headGapEnds s h := h.aside s.headGapEnds_link
  slotGapEnds s i h := h.aside (s.slotGapEnds_link i)
  discardSlot s i sl _ _ h := h.aside (s.discardSlot_link i sl)
  holdoffNone _ h := h
  rewind _ h := h

end LinkForm

/-- Settles O60, operation by operation: a place is taken in the buffer's free room alone, and an answer enters the store
only when its sequence is not held. -/
theorem linkFormKept : Obligations.LinkFormKept :=
  fun s t hs ht => LinkForm.kept.step s t hs ht

end Sys2Proof.HostLink
end

section
/-!
The end of an executed request: its answer is stored and given to the oldest WAITING place, and the arbiter that decides
then takes HELLO, LINK_NAK or an answer, so that no notice and no hint leaves (R166, R167, R169, R170).
-/

namespace Sys2Proof.HostLink

open Sys2Proof.Machine Sys2Proof.Safety Sys2Proof.OutboundArbiter

/-! ### The arbiter with an answer on offer (R169) -/

/-- The next frame is that of the first WAITING place (R166). -/
theorem places_split_of_nextFrame {l : Link} {f : Frame} (h : l.nextFrame = some f) :
    ∃ before after : List Place, l.places = before ++ { frame := f, state := .waiting } :: after ∧
      ∀ p ∈ before, p.state ≠ .waiting := by
  obtain ⟨p, hp, rfl⟩ := Option.map_eq_some_iff.mp h
  obtain ⟨hw, before, after, hsplit, hbefore⟩ := List.find?_eq_some_iff_append.mp hp
  have waiting : p.state = .waiting := beq_iff_eq.mp hw
  refine ⟨before, after, ?_, fun q hq hqw => ?_⟩
  · rw [hsplit, ← waiting]
  · simpa [Place.isWaiting, hqw] using hbefore q hq

/-- An ANSWERED place is found (R169). -/
theorem sendFirstAnswer_isSome {places : List Place} (h : ∃ p ∈ places, ∃ b : StoredAnswer, p.state = .answered b) :
    (sendFirstAnswer places).isSome = true := by
  induction places with
  | nil => simp at h
  | cons p rest ih =>
    unfold sendFirstAnswer
    cases hp : p.state with
    | answered b => rfl
    | waiting => simpa using ih (by simpa [hp] using h)
    | sending b => simpa using ih (by simpa [hp] using h)

/-- With an answer on offer the arbiter takes no notice and no hint (R169). -/
theorem arbitrate_notices_of_answer {s : State} (hh : s.held = none)
    (h : ∃ p ∈ s.link.places, ∃ b : StoredAnswer, p.state = .answered b) : s.arbitrate.notices = s.notices := by
  by_cases ht : s.link.tx = none
  · rw [State.arbitrate_of_idle hh ht]
    split
    · rfl
    · split
      · rfl
      · obtain ⟨r, hr⟩ := Option.isSome_iff_exists.mp (sendFirstAnswer_isSome h)
        rw [State.sendWaiting, hr]
        rfl
  · rw [State.arbitrate_of_busy ht]

/-! ### The answer stored and placed (R166, R167) -/

section Answered

variable {s : State} {before after : List Place} {f : Frame} (seq type : Byte) (a : Answer)
variable (hp : s.link.places = before ++ { frame := f, state := .waiting } :: after)
variable (hbefore : ∀ p ∈ before, p.state ≠ .waiting)

include hp hbefore

theorem giveAnswer_places : (s.giveAnswer seq type a).link.places =
    before ++ { frame := f, state := .answered { seq := seq, type := type, answer := a } } :: after := by
  rw [State.giveAnswer_link, hp, answerFirst_split hbefore]

/-- The end of an executed request touches the link and the counters alone (R168). -/
theorem answered_sameBlocks (hh : s.held = none) : SameBlocks s (answered s seq type a) := by
  have offered : ∃ p ∈ (s.giveAnswer seq type a).link.places, ∃ b : StoredAnswer, p.state = .answered b := by
    rw [giveAnswer_places seq type a hp hbefore]
    exact ⟨_, List.mem_append_cons_self, _, rfl⟩
  have notices := arbitrate_notices_of_answer (s := s.giveAnswer seq type a) hh offered
  simp [SameBlocks, answered, notices]

theorem answered_of_busy (ht : s.link.tx ≠ none) : (answered s seq type a).link.tx = s.link.tx ∧
    (answered s seq type a).link.nakPending = s.link.nakPending ∧
    (answered s seq type a).link.places =
      before ++ { frame := f, state := .answered { seq := seq, type := type, answer := a } } :: after := by
  have busy : answered s seq type a = s.giveAnswer seq type a := State.arbitrate_of_busy ht
  rw [busy]
  exact ⟨rfl, rfl, giveAnswer_places seq type a hp hbefore⟩

/-- HELLO and LINK_NAK go before the answer, which waits in its place (R169). -/
theorem answered_of_preferred (hh : s.held = none) (ht : s.link.tx = none)
    (hpref : s.link.helloOffered = true ∨ s.link.nakPending = true) : (answered s seq type a).link.tx ≠ none ∧
    (answered s seq type a).link.places =
      before ++ { frame := f, state := .answered { seq := seq, type := type, answer := a } } :: after := by
  have places := giveAnswer_places seq type a hp hbefore
  cases hello : s.link.helloOffered with
  | true =>
    have sent : answered s seq type a = (s.giveAnswer seq type a).sendHello := arbitrate_of_hello hh ht hello
    rw [sent]
    exact ⟨Option.some_ne_none _, places⟩
  | false =>
    have nak : s.link.nakPending = true := hpref.resolve_left (by rw [hello]; exact Bool.false_ne_true)
    have sent : answered s seq type a = (s.giveAnswer seq type a).sendNak := arbitrate_of_nak hh ht hello nak
    rw [sent]
    exact ⟨Option.some_ne_none _, places⟩

/-- Behind answers that are being sent alone, the answer is taken at once (R169, R170). -/
theorem answered_of_first (hh : s.held = none) (ht : s.link.tx = none) (hello : s.link.helloOffered = false)
    (nak : s.link.nakPending = false) (hfirst : ∀ p ∈ before, ∃ y : StoredAnswer, p.state = .sending y) :
    (answered s seq type a).link.tx = some { kind := .answer, bytes := frameBytes seq type a.payload } ∧
    (answered s seq type a).link.places =
      before ++ { frame := f, state := .sending { seq := seq, type := type, answer := a } } :: after := by
  have none_before : ∀ p ∈ before, ∀ b : StoredAnswer, p.state ≠ .answered b := by
    intro p hpm b hb
    obtain ⟨y, hy⟩ := hfirst p hpm
    rw [hy] at hb
    cases hb
  have waiting : answered s seq type a = (s.giveAnswer seq type a).sendWaiting := arbitrate_of_waiting hh ht hello nak
  rw [waiting, sendWaiting_of_answer (giveAnswer_places seq type a hp hbefore) none_before]
  exact ⟨rfl, rfl⟩

end Answered

/-- The oldest of eight answers leaves (R167). -/
theorem enterAnswer_of_length_le {store : List StoredAnswer} (a : StoredAnswer) (h : store.length ≤ 8) :
    enterAnswer store a = (if store.length = 8 then store.drop 1 else store) ++ [a] := by
  unfold enterAnswer Config.storedAnswers
  split
  · next full => rw [full]
  · next room =>
    have stays : store.length + 1 - 8 = 0 := by omega
    rw [stays, List.drop_zero]

theorem answered_store (s : State) (seq type : Byte) (a : Answer) :
    (answered s seq type a).link.store = enterAnswer s.link.store { seq := seq, type := type, answer := a } := by
  rw [answered, State.arbitrate_link_store, State.giveAnswer_link]

theorem answered_counters (s : State) (seq type : Byte) (a : Answer) : (answered s seq type a).counters =
    if a.isRefusal then { s.counters with refusals := s.counters.refusals + 1 } else s.counters := by
  rw [answered, State.arbitrate_counters, State.giveAnswer_counters]

/-- The answers that are no refusal (R195). -/
theorem isRefusal_eq_false {a : Answer} (h : ∀ r : RefusalStatus, a ≠ .refused r) : a.isRefusal = false := by
  cases a with
  | refused r => exact absurd rfl (h r)
  | _ => rfl

/-- Settles O26, by what the arbiter finds: a busy line, HELLO or LINK_NAK on offer, or the answer first. -/
theorem answerStoredAndPlaced : Obligations.AnswerStoredAndPlaced := by
  intro s seq type a before after f hh hstore hp hbefore x places t
  refine ⟨answered_sameBlocks seq type a hp hbefore hh, ?_, fun r hr => ?_, fun hr => ?_,
    State.arbitrate_link_framer _, State.arbitrate_link_newestPlaced _, State.arbitrate_link_helloOffered _,
    State.arbitrate_link_stopped _, State.arbitrate_link_resetCause _, State.arbitrate_link_lspd _,
    answered_of_busy seq type a hp hbefore, answered_of_preferred seq type a hp hbefore hh,
    answered_of_first seq type a hp hbefore hh⟩
  · exact (answered_store s seq type a).trans (enterAnswer_of_length_le x hstore)
  · rw [answered_counters, hr]
    rfl
  · rw [answered_counters, isRefusal_eq_false hr]
    rfl

end Sys2Proof.HostLink
end

section
/-!
The table of R189 against the parsing of a request's payload: what parses lies in the table, row by row.
-/

namespace Sys2Proof.HostLink

open Sys2Proof.Machine Sys2Proof.Safety

/-! ### The fields of a payload (R189) -/

theorem nodeField_range {b : Byte} {n : NodeId} (h : nodeField b = some n) : 1 ≤ b.toNat ∧ b.toNat ≤ 30 := by
  unfold nodeField at h
  split at h
  · assumption
  · cases h

theorem flagField_range {b : Byte} {f : Bool} (h : flagField b = some f) : b.toNat ≤ 1 := by
  unfold flagField at h
  split at h
  · next h0 => simp [h0]
  · split at h
    · next h1 => simp [h1]
    · cases h

theorem slotField_range {b : Byte} {i : SlotId} (h : slotField b = some i) : b.toNat ≤ 7 := by
  unfold slotField at h
  split at h
  · omega
  · cases h

theorem sizeField_range {b : Byte} {z : PacketSize} (h : sizeField b = some z) :
    b.toNat = 8 ∨ b.toNat = 16 ∨ b.toNat = 32 := by
  unfold sizeField at h
  split at h
  · next h8 => simp [h8]
  · split at h
    · next h16 => simp [h16]
    · split at h
      · next h32 => simp [h32]
      · cases h

/-- An id field is not 0 (R182, R183). -/
theorem one_le_of_ne_zero {b : Byte} (h : b ≠ 0) : 1 ≤ b.toNat :=
  Nat.one_le_iff_ne_zero.mpr fun h0 => h (BitVec.eq_of_toNat_eq h0)

/-- A count or length field, on the address's two bytes (R168, R189). -/
theorem accessOk_range {hi lo : Byte} {n most : Nat} (h : accessOk (half hi lo) n most = true) :
    1 ≤ n ∧ n ≤ most ∧ hi.toNat * 256 + lo.toNat + n ≤ 65536 := by
  rwa [accessOk_iff, half_toNat] at h

/-! ### A payload that parses is one of the table of R189 -/

section Payloads

variable {p : List Byte}

theorem fieldsOk_postWrite {a : NodeId × Half × List Byte} (h : postWriteOperands p = some a) :
    fieldsOk 0x01 p = true := by
  unfold postWriteOperands at h
  split at h
  · split at h
    · next hn =>
      split at h
      · next hacc =>
        obtain ⟨least, most, fits⟩ := accessOk_range hacc
        exact decide_eq_true
          ⟨Nat.add_le_add_right least 3, Nat.add_le_add_right most 3, nodeField_range hn, fits⟩
      · cases h
    · cases h
  · cases h

theorem fieldsOk_broadcast {a : Half × List Byte} (h : broadcastOperands p = some a) : fieldsOk 0x02 p = true := by
  unfold broadcastOperands at h
  split at h
  · split at h
    · next hacc =>
      obtain ⟨least, most, fits⟩ := accessOk_range hacc
      exact decide_eq_true ⟨Nat.add_le_add_right least 2, Nat.add_le_add_right most 2, fits⟩
    · cases h
  · cases h

theorem fieldsOk_confirmWrite {a : DelayedReq × Bool} (h : confirmWriteOperands p = some a) :
    fieldsOk 0x10 p = true := by
  unfold confirmWriteOperands at h
  split at h
  · split at h
    · next hn hf =>
      split at h
      · next hacc =>
        obtain ⟨least, most, fits⟩ := accessOk_range hacc
        exact decide_eq_true ⟨Nat.add_le_add_right least 4, Nat.add_le_add_right most 4, nodeField_range hn,
          flagField_range hf, fits⟩
      · cases h
    · cases h
  · cases h

theorem fieldsOk_readRegs {a : DelayedReq × Bool} (h : readRegsOperands p = some a) : fieldsOk 0x11 p = true := by
  unfold readRegsOperands at h
  split at h
  · split at h
    · next hn hf =>
      split at h
      · next hacc =>
        exact decide_eq_true ⟨rfl, nodeField_range hn, flagField_range hf, accessOk_range hacc⟩
      · cases h
    · cases h
  · cases h

theorem fieldsOk_readBlock {a : DelayedReq × Bool} (h : readBlockOperands p = some a) : fieldsOk 0x12 p = true := by
  unfold readBlockOperands at h
  split at h
  · split at h
    · next hn hf =>
      split at h
      · next hacc =>
        have access := accessOk_range hacc
        rw [half_toNat] at access
        exact decide_eq_true ⟨rfl, nodeField_range hn, flagField_range hf, access⟩
      · cases h
    · cases h
  · cases h

theorem fieldsOk_probeNode {a : DelayedReq × Bool} (h : probeNodeOperands p = some a) : fieldsOk 0x13 p = true := by
  unfold probeNodeOperands at h
  split at h
  · split at h
    · next hn hf =>
      exact decide_eq_true ⟨rfl, nodeField_range hn, flagField_range hf⟩
    · cases h
  · cases h

theorem fieldsOk_barrier {a : DelayedReq × Bool} (h : barrierOperands p = some a) : fieldsOk 0x14 p = true := by
  unfold barrierOperands at h
  split at h
  · split at h
    · next hf => exact decide_eq_true ⟨rfl, flagField_range hf⟩
    · cases h
  · cases h

theorem fieldsOk_cancel {i : SlotId} (h : cancelOperands p = some i) : fieldsOk 0x15 p = true := by
  unfold cancelOperands at h
  split at h
  · exact decide_eq_true ⟨rfl, slotField_range h⟩
  · cases h

theorem fieldsOk_ack {n : Half} (h : ackOperands p = some n) : fieldsOk 0x20 p = true := by
  unfold ackOperands at h
  split at h
  · rfl
  · cases h

theorem fieldsOk_setNode {a : NodeId × Bool × PacketSize × Bool} (h : setNodeOperands p = some a) :
    fieldsOk 0x30 p = true := by
  unfold setNodeOperands at h
  split at h
  · split at h
    · next hn hp hz hc =>
      exact decide_eq_true
        ⟨rfl, nodeField_range hn, flagField_range hp, sizeField_range hz, flagField_range hc⟩
    · cases h
  · cases h

theorem fieldsOk_getNode {n : NodeId} (h : getNodeOperands p = some n) : fieldsOk 0x31 p = true := by
  unfold getNodeOperands at h
  split at h
  · exact decide_eq_true ⟨rfl, nodeField_range h⟩
  · cases h

theorem fieldsOk_setParam {a : Byte × Half} (h : setParamOperands p = some a) : fieldsOk 0x32 p = true := by
  unfold setParamOperands at h
  split at h
  · split at h
    · cases h
    · next hid => exact decide_eq_true ⟨rfl, one_le_of_ne_zero hid⟩
  · cases h

theorem fieldsOk_getParam {b : Byte} (h : getParamOperands p = some b) : fieldsOk 0x33 p = true := by
  unfold getParamOperands at h
  split at h
  · split at h
    · cases h
    · next hid => exact decide_eq_true ⟨rfl, one_le_of_ne_zero hid⟩
  · cases h

theorem noOperands_eq_nil {u : Unit} (h : noOperands p = some u) : p = [] := by
  unfold noOperands at h
  split at h
  · rfl
  · cases h

end Payloads

end Sys2Proof.HostLink
end

section
/-!
The request rows said once: each is the dispatcher's taking of a frame with the row's own execution, which refuses a payload
outside R189 and changes nothing when it refuses (R166, R168, R189).
-/

namespace Sys2Proof.HostLink

open Sys2Proof.Machine Sys2Proof.Safety Sys2Proof.PostedWrites Sys2Proof.DelayedRequests

/-! ### The owners change nothing when they refuse (R168) -/

/-- An execution from s that ends in a refusal leaves s. -/
def KeepsOnRefusal (s : State) (out : State × Answer) : Prop :=
  ∀ r : RefusalStatus, out.2 = .refused r → out.1 = s

namespace KeepsOnRefusal

variable {s : State}

theorem of_same {a : Answer} : KeepsOnRefusal s (s, a) := fun _ _ => rfl

theorem of_not_refused {out : State × Answer} (h : ∀ r : RefusalStatus, out.2 ≠ .refused r) : KeepsOnRefusal s out :=
  fun r hr => absurd hr (h r)

theorem runningAnswer (i : SlotId) (sl : Slot) : KeepsOnRefusal s (s.runningAnswer i sl) := by
  unfold State.runningAnswer
  split
  · split
    · exact of_not_refused fun _ => Answer.noConfusion
    · exact of_same
  · exact of_same

/-- A COMPLETE slot is answered, not refused (R28). -/
theorem completeAnswer_not_refused (i : SlotId) (sl : Slot) (r : RefusalStatus) :
    (s.completeAnswer i sl).2 ≠ .refused r := by
  unfold State.completeAnswer
  split
  · exact Answer.noConfusion
  · exact Answer.noConfusion

theorem repeatAnswer (i : SlotId) : KeepsOnRefusal s (s.repeatAnswer i) := by
  unfold State.repeatAnswer
  split
  · exact of_same
  · split
    · exact of_not_refused (completeAnswer_not_refused i _)
    · exact runningAnswer i _
    · exact runningAnswer i _
    · exact of_same

/-- A request that fills a slot is not refused; of a BARRIER that completes at once the slot filled is COMPLETE (R26,
R37). -/
theorem fillAnswer_not_refused (i : SlotId) (req : DelayedReq) (notify : Bool) (r : RefusalStatus) :
    (s.fillAnswer i req notify).2 ≠ .refused r := by
  have completed := completeBarrier_slot_self (fillSlot_slot_self s i req notify)
  unfold State.fillAnswer
  dsimp only
  split
  · split
    · rw [repeatAnswer_of_complete completed rfl]
      exact completeAnswer_not_refused i _ r
    · exact Answer.noConfusion
  · exact Answer.noConfusion

/-- The checks of R25 refuse before the slot is filled. -/
theorem takeDelayed (req : DelayedReq) (notify : Bool) : KeepsOnRefusal s (s.takeDelayed req notify) := by
  unfold State.takeDelayed
  split
  · exact repeatAnswer _
  · split
    · exact of_same
    · split
      · exact of_same
      · exact of_not_refused (fillAnswer_not_refused _ req notify)

theorem cancel (i : SlotId) : KeepsOnRefusal s (s.cancel i) := by
  unfold State.cancel
  split
  · exact of_same
  · split
    · exact of_same
    · exact of_not_refused fun _ => Answer.noConfusion
    · exact of_not_refused fun _ => Answer.noConfusion
    · split
      · exact of_not_refused fun _ => Answer.noConfusion
      · exact of_not_refused fun _ => Answer.noConfusion

theorem acknowledge (n : Half) : KeepsOnRefusal s (s.acknowledge n) := by
  unfold State.acknowledge
  dsimp only
  split
  · split
    · exact of_not_refused fun _ => Answer.noConfusion
    · exact of_same
  · split
    · exact of_same
    · exact of_same

theorem storeParam (a : Byte × Half) : KeepsOnRefusal s (s.storeParam a) := by
  unfold State.storeParam
  split
  · exact of_same
  · split
    · exact of_not_refused fun _ => Answer.noConfusion
    · exact of_same

theorem readParam (b : Byte) : KeepsOnRefusal s (s.readParam b) := by
  unfold State.readParam
  split
  · exact of_same
  · exact of_same

/-- The checks of R4 and R5 refuse before the write is appended. -/
theorem postWrite (seq : Byte) (a : NodeId × Half × List Byte) : KeepsOnRefusal s (s.postWrite seq a) := by
  unfold State.postWrite State.handOver
  split
  · split
    · exact of_same
    · exact takeDelayed _ _
  · split
    · exact of_same
    · split
      · exact of_not_refused fun _ => Answer.noConfusion
      · exact of_same

theorem broadcastWrite (seq : Byte) (a : Half × List Byte) : KeepsOnRefusal s (s.broadcastWrite seq a) := by
  unfold State.broadcastWrite
  split
  · exact of_not_refused fun _ => Answer.noConfusion
  · exact of_same

end KeepsOnRefusal

/-! ### The dispatcher takes a frame (R166, R168) -/

section Taking

variable {s : State} {seq type : Byte} {payload : List Byte} (run : State → State × Answer)

/-- After a PART_RESET has been taken no frame is (R168). -/
theorem takeFrame_of_stopped (h : s.link.stopped = true) : s.takeFrame seq type payload run = s := by
  unfold State.takeFrame
  rw [if_neg fun hc => absurd (hc.1.symm.trans h) Bool.false_ne_true]

/-- A frame whose sequence is stored is not executed (R166). -/
theorem takeFrame_of_stored {a : StoredAnswer} (hr : s.link.stopped = false)
    (hn : s.link.nextFrame = some { seq := seq, type := type, payload := payload }) (hs : s.link.stored seq = some a) :
    s.takeFrame seq type payload run = s.replayAnswer a := by
  unfold State.takeFrame
  rw [if_pos ⟨hr, hn⟩, hs]

end Taking

/-- Command c is the dispatcher's taking of a frame of this type, with run as the execution, which changes nothing when it
refuses (R166, R168). -/
structure Dispatches (c : Instr) (seq type : Byte) (payload : List Byte) (run : State → State × Answer) : Prop where
  exec_eq : ∀ s : State, exec c s = .next (s.event fun t => t.takeFrame seq type payload run)
  keeps : ∀ s : State, KeepsOnRefusal s (run s)

namespace Dispatches

variable {c : Instr} {s : State} {seq type : Byte} {payload : List Byte} {run : State → State × Answer}

theorem exec_of_executes (d : Dispatches c seq type payload run) (hx : Executes s seq type payload) :
    exec c s = .next (answered (run s).1 seq type (run s).2) := by
  rw [d.exec_eq, State.event_of_running hx.1, State.takeFrame_of_executes hx]
  rfl

theorem exec_of_stopped (d : Dispatches c seq type payload run) (hh : s.held = none) (h : s.link.stopped = true) :
    exec c s = .next s.arbitrate := by
  rw [d.exec_eq, State.event_of_running hh, takeFrame_of_stopped run h]

theorem exec_of_stored (d : Dispatches c seq type payload run) {a : StoredAnswer} (hh : s.held = none)
    (hr : s.link.stopped = false) (hn : s.link.nextFrame = some { seq := seq, type := type, payload := payload })
    (hs : s.link.stored seq = some a) : exec c s = .next (s.replayAnswer a).arbitrate := by
  rw [d.exec_eq, State.event_of_running hh, takeFrame_of_stored run hr hn hs]

end Dispatches

/-- A row whose payload the dispatcher validates first: outside R189 it is refused BAD_FIELD (R168). -/
structure RequestRow (c : Instr) (seq type : Byte) (payload : List Byte) (run : State → State × Answer) : Prop
    extends Dispatches c seq type payload run where
  badField : fieldsOk type payload = false → ∀ s : State, run s = (s, .refused .badField)

/-- A row by its operands and the owner that decides (R168). -/
theorem RequestRow.of_owner {α : Type} {c : Instr} {seq type : Byte} {payload : List Byte} {operands : Option α}
    {owner : α → State → State × Answer}
    (hexec : ∀ s, exec c s = .next (s.event fun t => t.takeFrame seq type payload (State.validated operands owner)))
    (hfields : ∀ a, operands = some a → fieldsOk type payload = true)
    (howner : ∀ a s, KeepsOnRefusal s (owner a s)) :
    RequestRow c seq type payload (State.validated operands owner) where
  exec_eq := hexec
  keeps s := by
    unfold State.validated
    split
    · exact howner _ s
    · exact KeepsOnRefusal.of_same
  badField hbad s := by
    unfold State.validated
    split
    · next a => rw [hfields a rfl] at hbad; cases hbad
    · rfl

theorem delayedOwner_keeps (a : DelayedReq × Bool) (s : State) : KeepsOnRefusal s (State.delayedOwner a s) :=
  KeepsOnRefusal.takeDelayed a.1 a.2

/-- The requests without a payload are refused by no owner (R176, R179, R185, R186). -/
theorem RequestRow.of_bare {c : Instr} {seq type : Byte} {payload : List Byte} {owner : Unit → State → State × Answer}
    (hexec : ∀ s, exec c s =
      .next (s.event fun t => t.takeFrame seq type payload (State.validated (noOperands payload) owner)))
    (hfields : fieldsOk type [] = true) (howner : ∀ s, KeepsOnRefusal s (owner () s)) :
    RequestRow c seq type payload (State.validated (noOperands payload) owner) :=
  .of_owner hexec (fun _ h => by rw [noOperands_eq_nil h, hfields]) fun _ => howner

/-- Every request row is validated and then decided by its owner (R168, R189). -/
theorem requestRow {seq : Byte} {payload : List Byte} {row : Instr × Byte} (h : row ∈ requestRows seq payload) :
    ∃ run, RequestRow row.1 seq row.2 payload run := by
  simp only [requestRows, List.mem_cons, List.not_mem_nil, or_false] at h
  rcases h with rfl | rfl | rfl | rfl | rfl | rfl | rfl | rfl | rfl | rfl | rfl | rfl | rfl | rfl | rfl | rfl | rfl
  · exact ⟨_, .of_owner (fun _ => rfl) (fun _ => fieldsOk_postWrite) fun a _ => .postWrite seq a⟩
  · exact ⟨_, .of_owner (fun _ => rfl) (fun _ => fieldsOk_broadcast) fun a _ => .broadcastWrite seq a⟩
  · exact ⟨_, .of_owner (fun _ => rfl) (fun _ => fieldsOk_confirmWrite) delayedOwner_keeps⟩
  · exact ⟨_, .of_owner (fun _ => rfl) (fun _ => fieldsOk_readRegs) delayedOwner_keeps⟩
  · exact ⟨_, .of_owner (fun _ => rfl) (fun _ => fieldsOk_readBlock) delayedOwner_keeps⟩
  · exact ⟨_, .of_owner (fun _ => rfl) (fun _ => fieldsOk_probeNode) delayedOwner_keeps⟩
  · exact ⟨_, .of_owner (fun _ => rfl) (fun _ => fieldsOk_barrier) delayedOwner_keeps⟩
  · exact ⟨_, .of_owner (fun _ => rfl) (fun _ => fieldsOk_cancel) fun i _ => .cancel i⟩
  · exact ⟨_, .of_owner (fun _ => rfl) (fun _ => fieldsOk_ack) fun n _ => .acknowledge n⟩
  · exact ⟨_, .of_owner (fun _ => rfl) (fun _ => fieldsOk_setNode) fun _ _ =>
      .of_not_refused fun _ => Answer.noConfusion⟩
  · exact ⟨_, .of_owner (fun _ => rfl) (fun _ => fieldsOk_getNode) fun _ _ => .of_same⟩
  · exact ⟨_, .of_owner (fun _ => rfl) (fun _ => fieldsOk_setParam) fun a _ => .storeParam a⟩
  · exact ⟨_, .of_owner (fun _ => rfl) (fun _ => fieldsOk_getParam) fun b _ => .readParam b⟩
  · exact ⟨_, .of_bare (fun _ => rfl) rfl fun _ => .of_same⟩
  · exact ⟨_, .of_bare (fun _ => rfl) rfl fun _ => .of_same⟩
  · exact ⟨_, .of_bare (fun _ => rfl) rfl fun _ => .of_not_refused fun _ => Answer.noConfusion⟩
  · exact ⟨_, .of_bare (fun _ => rfl) rfl fun _ => .of_not_refused fun _ => Answer.noConfusion⟩

/-- A frame of no request type is refused BAD_TYPE (R168). -/
theorem unknownTypeRequest_dispatches {type : Byte} (seq : Byte) (payload : List Byte)
    (h : requestTypes.contains type = false) :
    Dispatches (.unknownTypeRequest seq type payload) seq type payload fun s => (s, .refused .badType) where
  exec_eq s := by
    simp only [exec, execUnknownTypeRequest, h, Bool.false_eq_true, if_false]
  keeps _ := .of_same

/-- Settles O3, by the dispatcher's first step for an unknown type and its second for the seventeen rows. -/
theorem invalidRequestRefused : Obligations.InvalidRequestRefused := by
  intro s seq payload
  refine ⟨fun type hunknown hx => ?_, fun row hrow hbad hx => ?_⟩
  · exact (unknownTypeRequest_dispatches seq payload hunknown).exec_of_executes hx
  · obtain ⟨run, hrun⟩ := requestRow hrow
    rw [hrun.exec_of_executes hx, hrun.badField hbad]

end Sys2Proof.HostLink
end

section
/-!
What the dispatcher does with a frame, whichever row brings it: a refusal that touches the counter alone, a PART_RESET that
stops it, and a sequence that is answered from the store (R166, R168, R179).
-/

namespace Sys2Proof.HostLink

open Sys2Proof.Machine Sys2Proof.Safety

/-! ### Refusals (R168) -/

/-- The newest answer stored is the one just given (R167). -/
theorem answered_store_getLast? (u : State) (seq type : Byte) (a : Answer) :
    (answered u seq type a).link.store.getLast? = some { seq := seq, type := type, answer := a } := by
  rw [answered_store, enterAnswer, List.getLast?_concat]

/-- An execution that refuses changes the refusal counter and the link alone, since it leaves the state and the end of a
request touches nothing else. -/
theorem Dispatches.refusal {c : Instr} {seq type : Byte} {payload : List Byte} {run : State → State × Answer} {s t : State}
    {r : RefusalStatus} (d : Dispatches c seq type payload run) (hx : Executes s seq type payload)
    (ht : exec c s = .next t)
    (hlast : t.link.store.getLast? = some { seq := seq, type := type, answer := .refused r }) :
    SameBlocks s t ∧ t.counters = { s.counters with refusals := s.counters.refusals + 1 } := by
  rw [d.exec_of_executes hx] at ht
  obtain rfl := Host.Outcome.next.inj ht
  rw [answered_store_getLast?] at hlast
  have refused : (run s).2 = .refused r := congrArg StoredAnswer.answer (Option.some.inj hlast)
  rw [d.keeps s r refused, refused]
  obtain ⟨hh, -, hnext, -⟩ := hx
  obtain ⟨before, after, hp, hbefore⟩ := places_split_of_nextFrame hnext
  exact ⟨answered_sameBlocks seq type _ hp hbefore hh, answered_counters s seq type _⟩

/-- Settles O4: whichever row is refused, and by whatever step, its execution left the state. -/
theorem refusalChangesOnlyTheCounter : Obligations.RefusalChangesOnlyTheCounter := by
  intro s t seq type payload c r hc hx ht hlast
  rcases hc with hrow | ⟨rfl, hunknown⟩
  · obtain ⟨run, hrun⟩ := requestRow hrow
    exact hrun.toDispatches.refusal hx ht hlast
  · exact (unknownTypeRequest_dispatches seq payload hunknown).refusal hx ht hlast

/-! ### PART_RESET (R168, R179) -/

theorem exec_partReset {s : State} {seq : Byte} (hx : Executes s seq 0x3F []) : exec (.partReset seq []) s =
    .next (answered { s with link := { s.link with stopped := true } } seq 0x3F .donePartReset) :=
  congrArg Host.Outcome.next (request_parsed hx State.requestReset (a := ()) rfl)

/-- A stopped dispatcher takes no frame of an unknown type, nor of a known one by this row (R168). -/
theorem exec_unknownTypeRequest_of_stopped {s : State} (seq type : Byte) (payload : List Byte) (hh : s.held = none)
    (h : s.link.stopped = true) : exec (.unknownTypeRequest seq type payload) s = .next s.arbitrate := by
  show Host.Outcome.next _ = _
  rw [State.event_of_running hh, takeFrame_of_stopped _ h, ite_self]

theorem exec_replay_of_stopped {s : State} (seq type : Byte) (payload : List Byte) (hh : s.held = none)
    (h : s.link.stopped = true) : exec (.replay seq type payload) s = .next s.arbitrate := by
  show Host.Outcome.next _ = _
  rw [State.event_of_running hh, takeFrame_of_stopped _ h, ite_self]

/-- Settles O24: the request is answered by its owner, and every later row finds the dispatcher stopped. -/
theorem partResetStopsDispatcher : Obligations.PartResetStopsDispatcher := by
  refine ⟨fun s seq hx => exec_partReset hx, fun s seq type payload hh h => ⟨fun row hrow => ?_,
    exec_unknownTypeRequest_of_stopped seq type payload hh h, exec_replay_of_stopped seq type payload hh h⟩⟩
  obtain ⟨run, hrun⟩ := requestRow hrow
  exact hrun.exec_of_stopped hh h

/-! ### A sequence that is stored (R166) -/

theorem exec_replay_of_stored {s : State} {seq type : Byte} {payload : List Byte} {a : StoredAnswer} (hh : s.held = none)
    (hr : s.link.stopped = false) (hn : s.link.nextFrame = some { seq := seq, type := type, payload := payload })
    (hs : s.link.stored seq = some a) :
    exec (.replay seq type payload) s = .next (s.replayAnswer a).arbitrate := by
  show Host.Outcome.next _ = _
  rw [State.event_of_running hh, takeFrame_of_stored _ hr hn hs, hs]
  rfl

theorem nextFrame_of_split {l : Link} {before after : List Place} {f : Frame}
    (hp : l.places = before ++ { frame := f, state := .waiting } :: after) (hbefore : ∀ p ∈ before, p.state ≠ .waiting) :
    l.nextFrame = some f := by
  rw [Link.nextFrame, hp, find_waiting hbefore]
  rfl

/-- The place takes the stored answer, and the store stays (R166, R167). -/
theorem replayAnswer_of_split {s : State} {before after : List Place} {f : Frame} (a : StoredAnswer)
    (hp : s.link.places = before ++ { frame := f, state := .waiting } :: after)
    (hbefore : ∀ p ∈ before, p.state ≠ .waiting) :
    s.replayAnswer a = { s with
      link := { s.link with places := before ++ { frame := f, state := .answered a } :: after }
      counters := { s.counters with replays := s.counters.replays + 1 } } := by
  rw [State.replayAnswer, hp, answerFirst_split hbefore]

/-- Settles O25: REPLAY and the row of the frame's type alike find the sequence in the store. -/
theorem replayAnswersFromStore : Obligations.ReplayAnswersFromStore := by
  intro s seq type payload a before after hh hr hs hp hbefore u
  have hn := nextFrame_of_split hp hbefore
  have placed : s.replayAnswer a = u := replayAnswer_of_split a hp hbefore
  rw [← placed]
  refine ⟨exec_replay_of_stored hh hr hn hs, fun row hrow htype => ?_⟩
  obtain ⟨run, hrun⟩ := requestRow hrow
  rw [htype] at hrun
  exact hrun.exec_of_stored hh hr hn hs

end Sys2Proof.HostLink
end

section
/-!
The receive framer and the end of a transmitted frame: a good frame placed or discarded, the framer's faults, and what
FRAME_TRANSMITTED frees (R161 to R165, R170, R179).
-/

namespace Sys2Proof.HostLink

open Sys2Proof.Machine Sys2Proof.Safety Sys2Proof.Laws Sys2Proof.OutboundArbiter

/-! ### A frame of R187 (R164, R165) -/

theorem goodFrame_of_room {s : State} (f : Frame) (hf : s.link.framer = .hunt) (room : s.link.places.length < 4) :
    s.goodFrame f = { s with link := { s.link with
      newestPlaced := some f.seq
      places := s.link.places ++ [{ frame := f, state := .waiting }] } } := by
  have free : s.link.places.length < Config.framePlaces := room
  rw [State.goodFrame, if_pos free, State.placeFrame, ← hf]

theorem goodFrame_of_full {s : State} (f : Frame) (hf : s.link.framer = .hunt) (full : 4 ≤ s.link.places.length) :
    s.goodFrame f = { s with
      counters := { s.counters with overruns := s.counters.overruns + 1 }
      notices := s.notices.enterFault (.linkOverrun f.seq) } := by
  have taken : ¬ s.link.places.length < Config.framePlaces := Nat.not_lt.mpr full
  rw [State.goodFrame, if_neg taken, State.overrun, ← hf]

theorem exec_frameReceived {s : State} {f : Frame} (hh : s.held = none) (hf : s.link.framer = .hunt)
    (hp : f.payload.length ≤ 280) :
    exec (.frameReceived (frameBytes f.seq f.type f.payload)) s = .next (s.goodFrame f).arbitrate := by
  show Host.Outcome.next _ = _
  rw [State.event_of_running hh, frameBytes, takeChars_frame s f.seq f.type f.payload _ hf hp, if_pos rfl,
    State.arbitrate_arbitrate]

/-- Settles O28: the frame is good, and the buffer has room for it or is full. -/
theorem frameReceivedPlaced : Obligations.FrameReceivedPlaced := by
  intro s f hh hf hp
  rw [exec_frameReceived hh hf hp]
  exact ⟨fun room => by rw [goodFrame_of_room f hf room], fun full => by rw [goodFrame_of_full f hf full]⟩

/-! ### The framer's faults (R161 to R163) -/

theorem exec_badFrame {s : State} (chars : List Byte) (hh : s.held = none) :
    exec (.badFrame chars) s = .next (s.takeChars chars).arbitrate :=
  congrArg Host.Outcome.next (State.event_of_running hh _)

theorem takeChar_start {s : State} (hf : s.link.framer = .hunt) :
    s.takeChar 0xA5 = { s with link := { s.link with framer := .length [] } } := by
  rw [State.takeChar, hf]
  rfl

/-- A length outside 2..282 is a fault at its second character (R162). -/
theorem takeChars_badLength {s : State} {len : Half} (hf : s.link.framer = .hunt)
    (hlen : len.toNat < 2 ∨ 282 < len.toNat) :
    s.takeChars (0xA5 :: halfBytes len) = s.badFrame.arbitrate := by
  have outside : ¬ (2 ≤ len.toNat ∧ len.toNat ≤ 282) := by omega
  have fault : (Framer.length [len.extractLsb' 8 8]).take (len.extractLsb' 0 8) = .bad := by
    rw [Framer.take, half_split, if_neg outside]
  rw [halfBytes_eq, State.takeChars, List.foldl_cons, takeChar_start hf]
  show State.takeChar { s with link := { s.link with framer := .length [len.extractLsb' 8 8] } } (len.extractLsb' 0 8) = _
  rw [State.takeChar, fault]
  rfl

theorem exec_frameGapTimeout_of_hunt {s : State} (hh : s.held = none) (hf : s.link.framer = .hunt) :
    exec .frameGapTimeout s = .next s.arbitrate := by
  show Host.Outcome.next _ = _
  rw [State.event_of_running hh, State.frameGap, if_pos hf]

theorem exec_frameGapTimeout_of_not_hunt {s : State} (hh : s.held = none) (hf : s.link.framer ≠ .hunt) :
    exec .frameGapTimeout s = .next s.badFrame.arbitrate := by
  show Host.Outcome.next _ = _
  rw [State.event_of_running hh, State.frameGap, if_neg hf, State.arbitrate_arbitrate]

theorem exec_frameStartCharacter {s : State} (hh : s.held = none) (hf : s.link.framer = .hunt) :
    exec .frameStartCharacter s = .next (State.arbitrate { s with link := { s.link with framer := .length [] } }) := by
  show Host.Outcome.next _ = _
  rw [State.event_of_running hh, takeChar_start hf]

/-- Settles O29: in HUNT the character at which each fault is found ends the frame, outside HUNT the gap does. -/
theorem badFrameRaisesNak : Obligations.BadFrameRaisesNak := by
  intro s hh bad
  refine ⟨fun hf => ⟨fun seq type payload crc hp hcrc => ?_, fun len hlen => ?_,
    exec_frameGapTimeout_of_hunt hh hf, exec_frameStartCharacter hh hf⟩, fun hf => ?_⟩
  · rw [exec_badFrame _ hh, takeChars_frame s seq type payload crc hf hp, if_neg hcrc, State.arbitrate_arbitrate]
    rfl
  · rw [exec_badFrame _ hh, takeChars_badLength hf hlen, State.arbitrate_arbitrate]
    rfl
  · refine ⟨_, exec_frameGapTimeout_of_not_hunt hh hf, State.arbitrate_link_framer _, State.arbitrate_counters _,
      State.arbitrate_drt _, State.arbitrate_pwq _, fun busy => ?_, fun idle hello =>
        ⟨frameBytes 0 0x82 (nakPayload s.link.newestPlaced), ?_⟩⟩
    · have waits : s.badFrame.arbitrate = s.badFrame := State.arbitrate_of_busy busy
      rw [waits]
      exact ⟨rfl, rfl⟩
    · have sent : s.badFrame.arbitrate = s.badFrame.sendNak := arbitrate_of_nak hh idle hello rfl
      rw [sent]
      rfl

/-! ### The end of a transmitted frame (R170, R179) -/

theorem exec_frameTransmitted {s : State} (lspd : BitVec 2) (hh : s.held = none) :
    exec (.frameTransmitted lspd) s = .next (s.frameSent lspd).arbitrate :=
  congrArg Host.Outcome.next (State.event_of_running hh _)

section Sent

variable {s : State} {o : Outgoing} (lspd : BitVec 2) (ht : s.link.tx = some o)

include ht

theorem frameSent_of_hello (hk : o.kind = .hello) :
    s.frameSent lspd = { s with link := { s.link with tx := none, helloOffered := false } } := by
  simp only [State.frameSent, ht, hk]

/-- LINK_NAK, notices and hints hold no place (R170). -/
theorem frameSent_of_plain (hk : o.kind = .linkNak ∨ (∃ k : Half, o.kind = .notice k) ∨ ∃ i : SlotId, o.kind = .hint i) :
    s.frameSent lspd = { s with link := { s.link with tx := none } } := by
  rcases hk with hk | ⟨k, hk⟩ | ⟨i, hk⟩
  · simp only [State.frameSent, ht, hk]
  · simp only [State.frameSent, ht, hk]
  · simp only [State.frameSent, ht, hk]

theorem frameSent_of_answer (hk : o.kind = .answer) : s.frameSent lspd = s.answerSent lspd := by
  simp only [State.frameSent, ht, hk]

end Sent

section Answer

variable {before after : List Place} {f : Frame} {a : StoredAnswer}
variable (others : ∀ p ∈ before ++ after, ∀ b : StoredAnswer, p.state ≠ .sending b)

/-- A place that is not SENDING. -/
theorem isSending_eq_false {p : Place} (h : ∀ b : StoredAnswer, p.state ≠ .sending b) : p.isSending = false := by
  unfold Place.isSending
  split
  · next b hb => exact absurd hb (h b)
  · rfl

theorem sendsReset_eq_false {p : Place} (h : ∀ b : StoredAnswer, p.state ≠ .sending b) : p.sendsReset = false := by
  unfold Place.sendsReset
  split
  · next b hb => exact absurd hb (h b)
  · rfl

include others

/-- The place of the answer sent is the only one that leaves (R164). -/
theorem filter_sent :
    (before ++ { frame := f, state := .sending a } :: after).filter (fun p => !p.isSending) = before ++ after := by
  have stay : ∀ p ∈ before ++ after, (!p.isSending) = true := fun p hp => by
    rw [isSending_eq_false (others p hp)]
    rfl
  rw [List.filter_append, List.filter_cons_of_neg (by simp [Place.isSending]), ← List.filter_append,
    List.filter_eq_self.mpr stay]

/-- The answer sent is that of a PART_RESET exactly when it says so (R179). -/
theorem any_sendsReset :
    (before ++ { frame := f, state := .sending a } :: after).any Place.sendsReset = (a.answer == .donePartReset) := by
  have none_else : (before ++ after).any Place.sendsReset = false := List.any_eq_false.mpr fun p hp => by
    rw [sendsReset_eq_false (others p hp)]
    exact Bool.false_ne_true
  rw [List.any_append, Bool.or_eq_false_iff] at none_else
  obtain ⟨none_before, none_after⟩ := none_else
  rw [List.any_append, List.any_cons, none_before, none_after, Bool.false_or, Bool.or_false]
  rfl

variable {s : State} (lspd : BitVec 2) (hp : s.link.places = before ++ { frame := f, state := .sending a } :: after)

include hp

theorem answerSent_of_other (ha : a.answer ≠ .donePartReset) :
    s.answerSent lspd = { s with link := { s.link with tx := none, places := before ++ after } } := by
  rw [State.answerSent, hp, any_sendsReset others, filter_sent others, if_neg (by rwa [beq_iff_eq])]

theorem answerSent_of_partReset (ha : a.answer = .donePartReset) :
    s.answerSent lspd = (State.afterPartReset .request lspd s.segAttn s.pending).arbitrate := by
  rw [State.answerSent, hp, any_sendsReset others, if_pos (beq_iff_eq.mpr ha), State.partReset]

end Answer

/-- Settles O31, by the kind of the frame that was on the line. -/
theorem frameTransmittedFreesLine : Obligations.FrameTransmittedFreesLine := by
  intro s lspd o hh ht
  rw [exec_frameTransmitted lspd hh]
  refine ⟨fun hk => ?_, fun hk => ?_, fun before after f a hk hp others => ⟨fun ha => ?_, fun ha => ?_⟩⟩
  · rw [frameSent_of_hello lspd ht hk]
  · rw [frameSent_of_plain lspd ht hk]
  · rw [frameSent_of_answer lspd ht hk, answerSent_of_other others lspd hp ha]
  · rw [frameSent_of_answer lspd ht hk, answerSent_of_partReset others lspd hp ha, State.arbitrate_arbitrate]

end Sys2Proof.HostLink
end

section
/-!
The Parameter Set: one value read after another is written, the ranges of R181 as one predicate over the ids, and the
requests that write and read a parameter (R181 to R183).
-/

namespace Sys2Proof.ParameterSet

open Sys2Proof.Machine Sys2Proof.Safety

/-! ### One parameter and the others (R181) -/

/-- What a parameter reads after one is written. -/
theorem get_set (q : Params) (v : Nat) (p o : ParamId) : (q.set v p).get o = if o = p then v else q.get o := by
  cases p with
  | _ =>
    cases o with
    | _ => rfl

@[simp] theorem get_set_self (q : Params) (v : Nat) (p : ParamId) : (q.set v p).get p = v := by
  rw [get_set, if_pos rfl]

theorem get_set_of_ne (q : Params) (v : Nat) {p o : ParamId} (h : o ≠ p) : (q.set v p).get o = q.get o := by
  rw [get_set, if_neg h]

/-! ### The ranges (R181) -/

/-- The thirteen ranges, said by the range check of SET_PARAM (R182). -/
theorem paramsOk_iff (q : Params) : ParamsOk q ↔ ∀ p : ParamId, p.allows (q.get p) = true := by
  constructor
  · rintro ⟨attempt, response, gap, discard, notice, resend, delayed, collect, silence, rate, hold, settle, survey⟩ p
    cases p with
    | attemptLimit => exact decide_eq_true attempt
    | responseWindow => exact decide_eq_true response
    | retryGap => exact decide_eq_true gap
    | discardTime => exact decide_eq_true discard
    | noticeWindow => exact decide_eq_true notice
    | resendTime => exact decide_eq_true resend
    | delayedShare => exact decide_eq_true delayed
    | collectShare => exact decide_eq_true collect
    | silenceLimit => exact decide_eq_true silence
    | segBitRate => exact decide_eq_true rate
    | segResetHold => exact decide_eq_true hold
    | segSettle => exact decide_eq_true settle
    | surveyHoldoff => exact decide_eq_true survey
  · intro h
    exact ⟨of_decide_eq_true (h .attemptLimit), of_decide_eq_true (h .responseWindow), of_decide_eq_true (h .retryGap),
      of_decide_eq_true (h .discardTime), of_decide_eq_true (h .noticeWindow), of_decide_eq_true (h .resendTime),
      of_decide_eq_true (h .delayedShare), of_decide_eq_true (h .collectShare), of_decide_eq_true (h .silenceLimit),
      of_decide_eq_true (h .segBitRate), of_decide_eq_true (h .segResetHold), of_decide_eq_true (h .segSettle),
      of_decide_eq_true (h .surveyHoldoff)⟩

/-- A value that passes its range check keeps all parameters in range (R182). -/
theorem paramsOk_set {q : Params} {p : ParamId} {v : Nat} (hv : p.allows v = true) (h : ParamsOk q) :
    ParamsOk (q.set v p) := by
  rw [paramsOk_iff] at h ⊢
  intro o
  rw [get_set]
  split
  · next ho => rw [ho]; exact hv
  · exact h o

theorem paramsOk_default : ParamsOk Params.default := by
  unfold ParamsOk
  decide

theorem paramsOk_of_eq {q r : Params} (h : ParamsOk q) (e : r = q) : ParamsOk r := e ▸ h

/-! ### The rows of R181 -/

/-- The id of a row is the code of its parameter (R181, R195). -/
theorem code_of_row {row : ParamId × Byte × Nat × Nat} (h : row ∈ paramRows) : row.2.1 = row.1.code := by
  revert row
  decide

/-- The range check of a row's parameter: the row's own ends, and 0 for DISCARD_TIME (R181). -/
theorem allows_iff_of_row {row : ParamId × Byte × Nat × Nat} (h : row ∈ paramRows) (v : Half) :
    row.1.allows v.toNat = true ↔
      row.2.2.1 ≤ v.toNat ∧ v.toNat ≤ row.2.2.2 ∨ row.1 = .discardTime ∧ v = 0 := by
  have zero : v = 0 ↔ v.toNat = 0 := BitVec.toNat_inj.symm
  have below : v.toNat ≤ 65535 := Nat.le_of_lt_succ v.isLt
  rw [zero]
  simp only [paramRows, List.mem_cons, List.not_mem_nil, or_false] at h
  rcases h with rfl | rfl | rfl | rfl | rfl | rfl | rfl | rfl | rfl | rfl | rfl | rfl | rfl
  case inr.inr.inr.inl => simp [ParamId.allows, or_comm]
  all_goals simp [ParamId.allows]

/-! ### The ids (R182, R183) -/

/-- An id of 14 to 255 names no parameter (R182). -/
theorem paramOf_of_ge {b : Byte} (h : 14 ≤ b.toNat) : paramOf b = none := by
  unfold paramOf
  obtain ⟨k, hk⟩ := Nat.exists_eq_add_of_le' h
  rw [hk]
  rfl

theorem code_ne_zero (p : ParamId) : p.code ≠ 0 := by
  cases p with
  | _ => decide

/-! ### SET_PARAM (R182) -/

section Store

variable {s : State} {b : Byte} {v : Half} {p : ParamId}

theorem storeParam_of_unknown (h : paramOf b = none) : s.storeParam (b, v) = (s, .refused .badParam) := by
  simp only [State.storeParam, h]

theorem storeParam_of_allowed (h : paramOf b = some p) (hv : p.allows v.toNat = true) :
    s.storeParam (b, v) =
      ({ s with params := s.params.set v.toNat p }, .doneSetParam p v.toNat (s.params.get p)) := by
  simp only [State.storeParam, h, if_pos hv]

theorem storeParam_of_not_allowed (h : paramOf b = some p) (hv : ¬p.allows v.toNat = true) :
    s.storeParam (b, v) = (s, .refused .badParam) := by
  simp only [State.storeParam, h, if_neg hv]

end Store

theorem setParamOperands_payload {b : Byte} (hb : b ≠ 0) (v : Half) :
    setParamOperands (b :: halfBytes v) = some (b, v) := by
  rw [halfBytes_eq, setParamOperands, if_neg hb, half_split]

theorem exec_setParam {s : State} {seq b : Byte} {v : Half} (hb : b ≠ 0) (hx : Executes s seq 0x32 (b :: halfBytes v)) :
    exec (.setParam seq (b :: halfBytes v)) s =
      .next (answered (s.storeParam (b, v)).1 seq 0x32 (s.storeParam (b, v)).2) :=
  congrArg Host.Outcome.next (request_parsed hx State.storeParam (setParamOperands_payload hb v))

/-- Settles O21: an id names a parameter or none, and the parameter's range takes the value or not. -/
theorem setParamStores : Obligations.SetParamStores := by
  intro s seq b v hb hx
  rw [exec_setParam hb hx]
  refine ⟨fun hid => ?_, fun row hrow hid => ?_⟩
  · rw [storeParam_of_unknown (paramOf_of_ge hid)]
  · have named : paramOf b = some row.1 := by rw [hid, code_of_row hrow, paramOf_code]
    refine ⟨fun out => ?_, fun within => ?_⟩
    · rw [storeParam_of_not_allowed named (mt (allows_iff_of_row hrow v).mp out)]
    · refine ⟨s.params.set v.toNat row.1, get_set_self _ _ _, fun o ho => get_set_of_ne _ _ ho, ?_⟩
      rw [storeParam_of_allowed named ((allows_iff_of_row hrow v).mpr within)]

/-! ### GET_PARAM (R183) -/

theorem readParam_of_unknown {b : Byte} (s : State) (h : paramOf b = none) : s.readParam b = (s, .refused .badParam) := by
  simp only [State.readParam, h]

theorem readParam_code (s : State) (p : ParamId) :
    s.readParam p.code = (s, .doneGetParam p (s.params.get p) (Params.default.get p)) := by
  simp only [State.readParam, paramOf_code]

theorem getParamOperands_payload {b : Byte} (hb : b ≠ 0) : getParamOperands [b] = some b := if_neg hb

/-- Only one id of 1 to 255 is a payload of GET_PARAM (R189). -/
theorem getParamOperands_eq_none {payload : List Byte} (h : payload.length ≠ 1 ∨ payload = [0]) :
    getParamOperands payload = none := by
  rcases h with hlen | rfl
  · match payload, hlen with
    | [], _ => rfl
    | [_], hlen => exact absurd rfl hlen
    | _ :: _ :: _, _ => rfl
  · rfl

theorem exec_getParam {s : State} {seq b : Byte} (hb : b ≠ 0) (hx : Executes s seq 0x33 [b]) :
    exec (.getParam seq [b]) s = .next (answered (s.readParam b).1 seq 0x33 (s.readParam b).2) :=
  congrArg Host.Outcome.next (request_parsed hx State.readParam (getParamOperands_payload hb))

theorem exec_getParam_unparsed {s : State} {seq : Byte} {payload : List Byte} (hx : Executes s seq 0x33 payload)
    (h : getParamOperands payload = none) :
    exec (.getParam seq payload) s = .next (answered s seq 0x33 (.refused .badField)) :=
  congrArg Host.Outcome.next (request_unparsed hx State.readParam h)

/-- Settles O19: the payload is no id, an id that names no parameter, or the code of one. -/
theorem getParamReads : Obligations.GetParamReads := by
  intro s seq payload hx
  refine ⟨fun bad => exec_getParam_unparsed hx (getParamOperands_eq_none bad), fun b hp hid => ?_, fun p hp => ?_⟩
  · subst hp
    have nonzero : b ≠ 0 := by rintro rfl; exact absurd hid (by decide)
    rw [exec_getParam nonzero hx, readParam_of_unknown s (paramOf_of_ge hid)]
  · subst hp
    rw [exec_getParam (code_ne_zero p) hx, readParam_code]

/-! ### Every step -/

/-- The middle operations keep the ranges: SET_PARAM alone writes a parameter, and only within its range. -/
theorem paramsOk_kept : Kept fun s => ParamsOk s.params where
  pendingFree _ _ h := h
  segAttnFree _ _ h := h
  arbitrate s h := paramsOk_of_eq h s.arbitrate_params
  replayAnswer _ _ h := h
  giveAnswer _ _ _ _ _ h := h
  takeChar s b h := paramsOk_of_eq h (s.takeChar_params b)
  frameGap s h := paramsOk_of_eq h s.frameGap_params
  linkReset _ h := h
  partReset _ _ _ _ := paramsOk_default
  frameSent _ _ _ _ _ h := h
  postWrite s seq a h := paramsOk_of_eq h (s.postWrite_params seq a)
  broadcastWrite s seq a h := paramsOk_of_eq h (s.broadcastWrite_params seq a)
  takeDelayed s req notify h := paramsOk_of_eq h (s.takeDelayed_params req notify)
  cancel s i h := paramsOk_of_eq h (s.cancel_params i)
  acknowledge s n h := paramsOk_of_eq h (s.acknowledge_params n)
  setNode _ _ _ h := h
  storeParam _ _ _ allowed h := paramsOk_set allowed h
  segmentReset s h := paramsOk_of_eq h s.segmentReset_params
  requestReset _ h := h
  schedule s h := paramsOk_of_eq h s.schedule_params
  holdExpires s _ h := paramsOk_of_eq h s.holdExpires_params
  enterRunning s _ h := paramsOk_of_eq h s.enterRunning_params
  engine _ _ _ h := h
  counters _ _ h := h
  deliver s x o _ h := paramsOk_of_eq h (s.deliver_params x o)
  windowEnds s x _ h := paramsOk_of_eq h (s.windowEnds_params x)
  trainEnds s starts _ h := paramsOk_of_eq h (s.trainEnds_params starts)
  headGapEnds s h := paramsOk_of_eq h s.headGapEnds_params
  slotGapEnds s i h := paramsOk_of_eq h (s.slotGapEnds_params i)
  discardSlot _ _ _ _ _ h := h
  holdoffNone _ h := h
  rewind _ h := h

/-- Settles O59, operation by operation: a parameter is written by SET_PARAM behind its range check, and a part reset
brings the defaults. -/
theorem parametersInRange : Obligations.ParametersInRange :=
  fun s t hs ht => paramsOk_kept.step s t hs ht

end Sys2Proof.ParameterSet
end

section
/-!
IDENTIFY, and the part reset from the line that starts it to the HELLO at its end (R177, R178, R180, R186).
-/

namespace Sys2Proof.StartUp

open Sys2Proof.Machine Sys2Proof.Safety Sys2Proof.OutboundArbiter

/-! ### IDENTIFY (R186) -/

theorem noOperands_of_ne_nil {payload : List Byte} (h : payload ≠ []) : noOperands payload = none := by
  cases payload with
  | nil => exact absurd rfl h
  | cons _ _ => rfl

/-- Settles O20: the payload is empty or refused, and the identity block is the one of R186. -/
theorem identifyAnswers : Obligations.IdentifyAnswers := by
  intro s seq payload hx
  refine ⟨fun h => ?_, fun h => ?_, by decide⟩
  · exact congrArg Host.Outcome.next (request_unparsed hx State.identity (noOperands_of_ne_nil h))
  · subst h
    exact congrArg Host.Outcome.next (request_parsed hx State.identity (a := ()) rfl)

/-! ### A part held in reset (R178) -/

/-- An event does not reach a part held in reset. -/
theorem event_of_held {s : State} (h : s.held.isSome = true) (act : State → State) : s.event act = s := if_pos h

/-- The level of the SEG_ATTN line after a command that finds it at this level (notes/assumptions/10.md). -/
def lineLevel (c : Instr) (level : Bool) : Bool :=
  match c with
  | .segAttnAsserted => true
  | .segAttnReleased => false
  | _ => level

theorem lineLevel_of_other {c : Instr} (level : Bool) (hasserted : c ≠ .segAttnAsserted)
    (hreleased : c ≠ .segAttnReleased) : lineLevel c level = level := by
  unfold lineLevel
  split
  · exact absurd rfl hasserted
  · exact absurd rfl hreleased
  · rfl

/-- Every command but the reset lines and the reset's end finds a held part deaf: the level of the SEG_ATTN line follows,
and nothing acts on it (R178). -/
theorem exec_of_held {s : State} (h : s.held.isSome = true) (c : Instr) (hpower : c ≠ .powerOn) (hnrst : c ≠ .nrstLow)
    (hend : ∀ lspd : BitVec 2, c ≠ .partResetEnd lspd) :
    exec c s = .next { s with segAttn := lineLevel c s.segAttn } := by
  cases c with
  | powerOn => exact absurd rfl hpower
  | nrstLow => exact absurd rfl hnrst
  | partResetEnd lspd => exact absurd rfl (hend lspd)
  | segAttnAsserted => exact congrArg Host.Outcome.next (event_of_held (s := { s with segAttn := true }) h _)
  | segAttnReleased => exact congrArg Host.Outcome.next (event_of_held (s := { s with segAttn := false }) h _)
  | _ => exact congrArg Host.Outcome.next (event_of_held h _)

/-- A power-on under way keeps its cause through an NRST low, and any other reset becomes one of the pin (R178). -/
theorem pinCause_eq (held : Option ResetCause) : pinCause held = if held = some .powerOn then .powerOn else .pin := by
  unfold pinCause
  split
  · rfl
  · next h => rw [if_neg h]

/-- Settles O32: the two lines hold the part by `State.holdInReset`, and then no event reaches it. -/
theorem resetLinesHoldPart : Obligations.ResetLinesHoldPart := by
  intro s
  refine ⟨⟨_, rfl, rfl, rfl, rfl, rfl⟩, ⟨_, rfl, rfl, rfl, rfl, fun h => ?_, fun h => ?_⟩, ?_⟩
  · rw [State.holdInReset_held, pinCause_eq, if_pos h]
  · rw [State.holdInReset_held, pinCause_eq, if_neg h]
  · intro c hh hpower hnrst hend
    exact ⟨_, exec_of_held hh c hpower hnrst hend, lineLevel_of_other s.segAttn⟩

/-! ### The end of a part reset (R169, R177, R180) -/

theorem exec_partResetEnd {s : State} {cause : ResetCause} (lspd : BitVec 2) (h : s.held = some cause) :
    exec (.partResetEnd lspd) s = .next (s.partReset cause lspd) := by
  simp only [exec, execPartResetEnd, h]

/-- The transmitter is idle and HELLO on offer, so it goes out first (R169, R175). -/
theorem partReset_eq_sendHello (s : State) (cause : ResetCause) (lspd : BitVec 2) :
    s.partReset cause lspd = (State.afterPartReset cause lspd s.segAttn s.pending).sendHello :=
  arbitrate_of_hello rfl rfl rfl

/-- Settles O33: the reset values, and the HELLO that the arbiter takes from them. -/
theorem partResetEndSendsHello : Obligations.PartResetEndSendsHello := by
  intro s lspd cause h
  rw [exec_partResetEnd lspd h, partReset_eq_sendHello]
  exact ⟨_, rfl, rfl, rfl⟩

/-- Settles O54: each invariant's own fact about the reset values, which its step lemma needed too. -/
theorem invariantsAfterReset : Obligations.InvariantsAfterReset := by
  intro cause lspd level l t
  obtain ⟨segment, attention⟩ := SegmentScheduling.SegmentForm.afterPartReset cause lspd level l
  exact ⟨DelayedRequests.noticesOk_updatesKeep.partReset cause lspd level l,
    PostedWrites.pwqOk_kept.partReset cause lspd level l,
    (DelayedRequests.tableForm_nil_iff t).mp (DelayedRequests.TableForm.afterPartReset cause lspd level l),
    segment, attention, ParameterSet.paramsOk_default, HostLink.LinkForm.afterPartReset cause lspd level l⟩

end Sys2Proof.StartUp
end

section
/-!
The request payloads of R189 read back to their operands: the rows whose payloads are not yet read back above, and the table
assembled.
-/

namespace Sys2Proof.RequestFormats

open Sys2Proof.Machine Sys2Proof.Safety Sys2Proof.Laws

section Delayed

variable (n : NodeId) (f : Bool) (a : Half) {k : Nat}

/-- The count's one byte holds every count the row allows. -/
theorem readRegsOperands_payload (least : 1 ≤ k) (most : k ≤ 32) (fits : a.toNat + k ≤ 65536) :
    readRegsOperands ([nodeByte n, flagByte f] ++ halfBytes a ++ [byte k]) = some (.readRegs n a k, f) := by
  have count : (byte k).toNat = k := byte_toNat (by omega)
  have access : accessOk a k 32 = true := (accessOk_iff _ _ _).mpr ⟨least, most, fits⟩
  simp only [halfBytes_eq, List.cons_append, List.nil_append, readRegsOperands, nodeField_nodeByte, flagField_flagByte,
    half_split, count, if_pos access]

/-- A count of 256 is why this row has two count bytes (R189). -/
theorem readBlockOperands_payload (least : 1 ≤ k) (most : k ≤ 256) (fits : a.toNat + k ≤ 65536) :
    readBlockOperands ([nodeByte n, flagByte f] ++ halfBytes a ++ numBytes k) = some (.readBlock n a k, f) := by
  have count := half_of_numBytes k (by omega)
  have access : accessOk a k 256 = true := (accessOk_iff _ _ _).mpr ⟨least, most, fits⟩
  simp only [numBytes, halfBytes_eq, List.cons_append, List.nil_append, readBlockOperands, nodeField_nodeByte,
    flagField_flagByte, count, half_split a, if_pos access]

theorem probeNodeOperands_payload : probeNodeOperands [nodeByte n, flagByte f] = some (.probeNode n, f) := by
  simp only [probeNodeOperands, nodeField_nodeByte, flagField_flagByte]

end Delayed

/-- Every 16-bit value is a notice number (R152). -/
theorem ackOperands_payload (n : Half) : ackOperands (halfBytes n) = some n := by
  rw [halfBytes_eq, ackOperands, half_split]

/-- Settles O2, row by row of R189: each field's bytes read back to the field, and the range of a count or data length is
what the row's check asks. -/
theorem requestPayloadsParse : Obligations.RequestPayloadsParse :=
  ⟨PostedWrites.postWriteOperands_payload,
   PostedWrites.broadcastOperands_payload,
   PostedWrites.confirmWriteOperands_payload,
   fun n f a _ => readRegsOperands_payload n f a,
   fun n f a _ => readBlockOperands_payload n f a,
   probeNodeOperands_payload,
   DelayedRequests.barrierOperands_payload,
   DelayedRequests.cancelOperands_payload,
   ackOperands_payload,
   NodeTable.setNodeOperands_payload,
   NodeTable.getNodeOperands_payload,
   fun _ v nonzero => ParameterSet.setParamOperands_payload nonzero v,
   fun _ nonzero => ParameterSet.getParamOperands_payload nonzero⟩

end Sys2Proof.RequestFormats
end

section
/-!
PROOF of O1: the step of a part whose queue is not empty.
-/

open Sys2Proof Sys2Proof.Machine

namespace Sys2Proof.StepRule

/-- A state with a command waiting runs the command at the front on the state with the queue's rest. -/
theorem step_of_pending {s : State} {c : Instr} {rest : List Instr} (waiting : s.pending = c :: rest) :
    step s = exec c { s with pending := rest } := by
  simp only [step, waiting]

/-- Settles O1: the queue holds the command at its front, and writing its rest replaces the whole queue. -/
theorem stepRunsFrontCommand : Obligations.StepRunsFrontCommand := by
  intro c rest s
  have waiting : ({ s with pending := c :: rest } : State).pending = c :: rest := rfl
  exact step_of_pending waiting

end Sys2Proof.StepRule
end
